-- ==== Sys2Proof/Word.lean ====
section
/-! DEFINITION. The word types of the PS/2 protocol engine and their plainest arithmetic (spec/00_scope.md R7, R8).
Every data value is a byte, the port request is 16 bits, a port result and `TICKS` are 32 bits, and a queue cursor
counts 0..9, so it is a `Fin 10` (its `+ 1` and `- 1` are the spec's `inc` and `dec`, modulo 10). -/
namespace Sys2Proof

/-- 8 bits: a queue entry, the shift register, a link byte (R7). -/
abbrev Byte := BitVec 8
/-- 16 bits: a port request word (R101). -/
abbrev Req := BitVec 16
/-- 32 bits: a port result, or `TICKS` (R40, R102). -/
abbrev Word := BitVec 32
/-- A queue cursor, 0..9 (R41). -/
abbrev Cursor := Fin 10

/-- The number of 1 bits of a byte (R10). -/
def popcount (b : Byte) : Nat := (List.range 8).countP fun i => b.getLsbD i

end Sys2Proof
end

