-- ==== Sys2Proof/Syntax.lean ====
section
/-! DEFINITION. The syntax: every row of spec/opcode_table.json is one constructor of `Instr`.
The rows belong to the encoding spaces of R100 (`Space`). The file also holds what the agents of R6 may do in one
step (`Event`), what a foreground has still to do (`FgOp`), and an entry of the harness script (`Item`). -/
namespace Sys2Proof

/-- The two queues (R41): `OUTQ` carries device to host bytes, `INQ` host to device bytes. -/
inductive QSel where
  | outq
  | inq
  deriving DecidableEq, Repr, Inhabited

/-- The nine handler states, in the order of R106. -/
inductive Handler where
  | idle | inhibited | sendBit | sendParity | sendStopBit
  | receiveBit | receiveParity | receiveAck | receiveEnd
  deriving DecidableEq, Repr, Inhabited

/-- The instructions: one constructor per row of the opcode table, in its order. -/
inductive Instr where
  -- PORT16: the foreground port (R101 to R104)
  | outEnq (imm : Byte)
  | outClr
  | outEmpty
  | outFull
  | outPeek
  | inEmpty
  | inFull
  | inPeek
  | inDeq
  | lerrRd
  | lerrClr
  | ticksRd
  | linesRd
  | illegal (op : Byte)
  -- PHASE2: the tick phases (R108)
  | fall
  | low
  | rise
  | high
  -- STATE4: the handlers (R106)
  | idle
  | inhibited
  | sendBit
  | sendParity
  | sendStopBit
  | receiveBit
  | receiveParity
  | receiveAck
  | receiveEnd
  -- LINE3: the line micro-operations (R109)
  | clkHold
  | clkRel
  | datHold
  | datRel
  | clkRd
  | datRd
  -- QOP4: the queue micro-operations (R110)
  | qenq (q : QSel)
  | qdeq (q : QSel)
  | qunq (q : QSel)
  | qclr (q : QSel)
  | qempty (q : QSel)
  | qfull (q : QSel)
  | qpeek (q : QSel)
  -- FRAME11: the wire frames (R111, R112)
  | frameD2H (data : Byte) (parity : Bool)
  | frameH2D (data : Byte) (parity : Bool)
  -- CMD8: the host to device link bytes (R113, R114)
  | cmdReset
  | cmdResend
  | cmdReadId
  | cmdSetTypematic
  | cmdSetLeds
  | cmdEcho
  | cmdGenericEF
  | cmdGenericF0
  | cmdGenericF1
  | cmdGenericF4
  | cmdGenericF5
  | cmdGenericF6
  | cmdGenericF7
  | cmdGenericF8
  | cmdGenericF9
  | cmdGenericFA
  | cmdGenericFB
  | cmdGenericFC
  | cmdGenericFD
  | data007F (low : BitVec 7)
  | data80BF (low : BitVec 6)
  | dataC0DF (low : BitVec 5)
  | dataE0E7 (low : BitVec 3)
  | dataE8EB (low : BitVec 2)
  | dataECEC
  | sentinel
  -- RSP8: the device to host link bytes (R115)
  | rspAck
  | rspResend
  | rspSelfTestPass
  | rspEcho
  | rspId1
  | rspId2
  | rspMake
  | rspBreakPrefix
  deriving DecidableEq, Repr

/-- The encoding spaces of R100 that select an operation. `link` holds the host to device bytes by value;
`rxError` is the byte that stands for the receive error, whose value is the parameter `RX_ERR_BYTE` (R7, R281). -/
inductive Space where
  | port | phase | state | line | queue | frameD2H | frameH2D | link | rxError | response
  deriving DecidableEq, Repr, Inhabited

/-- How many bits a word of the space has (R100, R119). -/
def Space.width : Space → Nat
  | .port => 16
  | .phase => 2
  | .state => 4
  | .line => 3
  | .queue => 4
  | .frameD2H => 11
  | .frameH2D => 12
  | .link => 8
  | .rxError => 8
  | .response => 8

/-- One step of one agent (R6, R11). `hclk` and `hdat` are the host's drive at that step: true = not driving,
false = driving low (R238). -/
inductive Event where
  /-- `TICK(hclk, hdat)`: one engine tick (R180). -/
  | tick (hclk hdat : Bool)
  /-- `PORT(req, hclk, hdat)`: one port transaction of a foreground that is free to ask anything (R250, R280). -/
  | port (req : Req) (hclk hdat : Bool)
  /-- `RESET` (R340). -/
  | reset
  /-- The next step of the foreground that keeps the contracts of spec/44_link_contracts.md (R304); `qualifying` is the
  event source's input at that step (R302). -/
  | foreground (qualifying : Bool)
  deriving DecidableEq, Repr, Inhabited

/-- What a foreground that keeps the contracts has still to do, one entry a step (R292, R301, R303, R304). -/
inductive FgOp where
  /-- Issue this port request (R101). -/
  | request (req : Req)
  /-- Enqueue this response byte: a row of RSP8 (R115). -/
  | respond (b : Byte)
  /-- `LERR.RD`, and the recovery of R303 where it returns 1. -/
  | checkLinkError
  /-- `IN.DEQ`, and the handling of the byte it returns (R281). -/
  | takeByte
  /-- Poll the event source (R302). -/
  | pollSource
  /-- `IN.EMPTY`: a trigger is dropped while inbound data is pending (R301). -/
  | checkInbound
  /-- `OUT.EMPTY`: a trigger is dropped while a reply is in flight (R301). -/
  | checkOutbound
  /-- `t0 <- TICKS.RD`: the parameter wait begins (R292). -/
  | waitStart
  /-- `IN.DEQ` inside the parameter wait (R292). -/
  | waitTake
  /-- `TICKS.RD` and the deadline test of the parameter wait (R292). -/
  | waitDeadline
  deriving DecidableEq, Repr, Inhabited

/-- An entry of the harness script: an agent's step, or a word of an encoding space that is run by itself. -/
inductive Item where
  | event (e : Event)
  | word (space : Space) (w : Nat)
  deriving DecidableEq, Repr, Inhabited

end Sys2Proof
end

