-- ==== Sys2Proof/Config.lean ====
section
/-! DEFINITION. The parameters of R7, and the values the spec leaves open. A parameter the spec calls OPEN is an
opaque constant: nothing can be proved of its value, so a claim holds for every value. -/
namespace Sys2Proof.Config

/-- `TICKS_PER_CLOCK` (R7). -/
def ticksPerClock : Nat := 4
/-- `QSLOTS` (R7): the slots of each queue's store. -/
def qslots : Nat := 10
/-- `QCAP` (R7): the usable capacity of each queue. -/
def qcap : Nat := 9
/-- `RESEND_CODE` (R7). -/
def resendCode : Byte := 0xFE
/-- `CMD_MIN` (R7): the lowest command byte. -/
def cmdMin : Byte := 0xED

/-- `RX_ERR_BYTE` (R7): OPEN, any 8-bit value (log entry 1). -/
opaque rxErrByte : Byte

/-- How far `PS2_CLK_HZ` lies above 10 000: OPEN, 0..6700 (R7, log entry 2). R7 gives the range only; that the rate is a
whole number of Hz is the model's (DESIGN CHOICE, log entry 22). -/
opaque clkHzAbove : Fin 6701
/-- `PS2_CLK_HZ` (R7): OPEN in 10 000..16 700. -/
def ps2ClkHz : Nat := 10000 + clkHzAbove.val
/-- `TICK_HZ` (R7): `4 * PS2_CLK_HZ`. -/
def tickHz : Nat := ticksPerClock * ps2ClkHz
/-- `PARAM_WAIT_TICKS` (R7): one second, in ticks. -/
def paramWaitTicks : Nat := tickHz
/-- The debounce window of R302: three seconds, in ticks. -/
def windowTicks : Nat := 3 * tickHz

/-- FREE VALUE (log entry 3): the step that comes when the harness script is used up. R75: "A model must admit every
interleaving", so which agent steps, with what request and under what host drive, is open. The argument is the counter
`seq` of the state. -/
opaque freeEvent : Nat → Event

/-- FREE VALUE (log entry 4): `CNT - 1` where `CNT = 0`. R189: `CNT` "never wraps", so no rule states this value; the
arguments are the counter `seq` and `TICKS`. -/
opaque freeCount : Nat → Word → BitVec 4

end Sys2Proof.Config
end

