-- ==== Sys2Proof/WellFormed.lean ====
section
/-! DEFINITION. Which instructions the encodings of spec/30_encoding.md have a word for. -/
namespace Sys2Proof

/-- The 13 `OP` values that select an operation (R103). -/
def legalOps : List Byte :=
  [0x01, 0x02, 0x03, 0x04, 0x05, 0x13, 0x14, 0x15, 0x16, 0x20, 0x21, 0x30, 0x40]

/-- R104: ILLEGAL is every `OP` not in the table of R103. -/
def wfIllegal (op : Byte) : Bool := !legalOps.contains op

/-- R110: an unqueue and a clear exist on `OUTQ` only (nobody issues them on `INQ`). -/
def wfOutqOnly (q : QSel) : Bool := q == .outq

/-- R111: a device to host frame carries `P = 1 xor (popcount(b) mod 2)`. -/
def wfD2H (data : Byte) (parity : Bool) : Bool := parity == (popcount data % 2 == 0)

/-- The well-formed instructions. Every other operand is in range by its type. -/
def Instr.wf : Instr → Bool
  | .outEnq _ | .outClr | .outEmpty | .outFull | .outPeek => true
  | .inEmpty | .inFull | .inPeek | .inDeq => true
  | .lerrRd | .lerrClr | .ticksRd | .linesRd => true
  | .illegal op => wfIllegal op
  | .fall | .low | .rise | .high => true
  | .idle | .inhibited | .sendBit | .sendParity | .sendStopBit => true
  | .receiveBit | .receiveParity | .receiveAck | .receiveEnd => true
  | .clkHold | .clkRel | .datHold | .datRel | .clkRd | .datRd => true
  | .qenq _ | .qdeq _ | .qempty _ | .qfull _ | .qpeek _ => true
  | .qunq q => wfOutqOnly q
  | .qclr q => wfOutqOnly q
  | .frameD2H data parity => wfD2H data parity
  | .frameH2D _ _ => true
  | .cmdReset | .cmdResend | .cmdReadId | .cmdSetTypematic | .cmdSetLeds | .cmdEcho => true
  | .cmdGenericEF | .cmdGenericF0 | .cmdGenericF1 | .cmdGenericF4 | .cmdGenericF5 => true
  | .cmdGenericF6 | .cmdGenericF7 | .cmdGenericF8 | .cmdGenericF9 | .cmdGenericFA => true
  | .cmdGenericFB | .cmdGenericFC | .cmdGenericFD => true
  | .data007F _ | .data80BF _ | .dataC0DF _ | .dataE0E7 _ | .dataE8EB _ | .dataECEC => true
  | .sentinel => true
  | .rspAck | .rspResend | .rspSelfTestPass | .rspEcho | .rspId1 | .rspId2 => true
  | .rspMake | .rspBreakPrefix => true

end Sys2Proof
end

