-- ==== Sys2Proof/Decode.lean ====
section
/-! DEFINITION. The decoders of spec/30_encoding.md, total on every word, and the encoder written from the same tables.
A word that no rule gives an operation is rejected by name (`Reject`). -/
namespace Sys2Proof

/-- Why a word is no instruction. -/
inductive Reject where
  /-- The word has a bit outside its space's width (R100, R119). -/
  | tooWide (space : Space) (w : Nat)
  /-- State codes 9..15 are reserved (R107). -/
  | reservedState (code : BitVec 4)
  /-- Line codes 0b101 and 0b111 are reserved (R109). -/
  | reservedLine (code : BitVec 3)
  /-- `OPC = 7`, or a combination marked "nobody" (R110). -/
  | reservedQueue (code : BitVec 4)
  /-- A device to host word whose start, parity or stop bit is not R111's. -/
  | badFrameD2H (w : BitVec 11)
  /-- A host to device word whose start, stop or ACK bit is not R112's. -/
  | badFrameH2D (w : BitVec 12)
  /-- A byte that is no response code (R115). -/
  | notResponse (b : Byte)
  /-- A byte that is not `RX_ERR_BYTE` (R281). -/
  | notRxError (b : Byte)
  deriving DecidableEq, Repr

/-! ### Internal codes -/

/-- The `ST` code of a handler (R106). -/
def Handler.code : Handler → BitVec 4
  | .idle => 0
  | .inhibited => 1
  | .sendBit => 2
  | .sendParity => 3
  | .sendStopBit => 4
  | .receiveBit => 5
  | .receiveParity => 6
  | .receiveAck => 7
  | .receiveEnd => 8

/-- The handler an `ST` code names; codes 9..15 name none (R106, R107). -/
def Handler.ofCode (c : BitVec 4) : Option Handler :=
  if c = 0 then some .idle
  else if c = 1 then some .inhibited
  else if c = 2 then some .sendBit
  else if c = 3 then some .sendParity
  else if c = 4 then some .sendStopBit
  else if c = 5 then some .receiveBit
  else if c = 6 then some .receiveParity
  else if c = 7 then some .receiveAck
  else if c = 8 then some .receiveEnd
  else none

/-- The row of a handler. -/
def Handler.instr : Handler → Instr
  | .idle => .idle
  | .inhibited => .inhibited
  | .sendBit => .sendBit
  | .sendParity => .sendParity
  | .sendStopBit => .sendStopBit
  | .receiveBit => .receiveBit
  | .receiveParity => .receiveParity
  | .receiveAck => .receiveAck
  | .receiveEnd => .receiveEnd

/-- The coarse states of the source's data model (R106, last column). -/
inductive Coarse where
  | idle | inhibited | sending | receiving
  deriving DecidableEq, Repr

/-- The coarse group of a handler (R106). -/
def Handler.coarse : Handler → Coarse
  | .idle => .idle
  | .inhibited => .inhibited
  | .sendBit | .sendParity | .sendStopBit => .sending
  | .receiveBit | .receiveParity | .receiveAck | .receiveEnd => .receiving

/-- The queue bit of a queue micro-operation: 0 = `OUTQ`, 1 = `INQ` (R110). -/
def QSel.ofBit (b : Bool) : QSel := if b then .inq else .outq

/-- The queue bit of a queue. -/
def QSel.bit : QSel → BitVec 1
  | .outq => 0
  | .inq => 1

/-! ### Decoders, one for each encoding space -/

/-- The port decoder of R116, total on all request words. `IMM` reaches only `OUT.ENQ` (R104). -/
def decodePort (req : Req) : Instr :=
  let op : Byte := req.extractLsb' 8 8
  let imm : Byte := req.extractLsb' 0 8
  if op = 0x01 then .outEnq imm
  else if op = 0x02 then .outClr
  else if op = 0x03 then .outEmpty
  else if op = 0x04 then .outFull
  else if op = 0x05 then .outPeek
  else if op = 0x13 then .inEmpty
  else if op = 0x14 then .inFull
  else if op = 0x15 then .inPeek
  else if op = 0x16 then .inDeq
  else if op = 0x20 then .lerrRd
  else if op = 0x21 then .lerrClr
  else if op = 0x30 then .ticksRd
  else if op = 0x40 then .linesRd
  else .illegal op

/-- The tick phase codes of R108; none is reserved. -/
def decodePhase (ph : BitVec 2) : Instr :=
  if ph = 0 then .fall else if ph = 1 then .low else if ph = 2 then .rise else .high

/-- The handler state codes of R106. -/
def decodeState (st : BitVec 4) : Except Reject Instr :=
  match Handler.ofCode st with
  | some h => .ok h.instr
  | none => .error (.reservedState st)

/-- The line micro-operations of R109: bit 2 is `K`, bit 1 `L`, bit 0 `V`. -/
def decodeLine (c : BitVec 3) : Except Reject Instr :=
  match c.getLsbD 2, c.getLsbD 1, c.getLsbD 0 with
  | false, false, false => .ok .clkHold
  | false, false, true => .ok .clkRel
  | false, true, false => .ok .datHold
  | false, true, true => .ok .datRel
  | true, false, false => .ok .clkRd
  | true, true, false => .ok .datRd
  | true, _, true => .error (.reservedLine c)

/-- The queue micro-operations of R110: bit 3 is `Q`, bits 2..0 `OPC`. -/
def decodeQueue (c : BitVec 4) : Except Reject Instr :=
  let q := QSel.ofBit (c.getLsbD 3)
  let opc : BitVec 3 := c.extractLsb' 0 3
  if opc = 0 then .ok (.qenq q)
  else if opc = 1 then .ok (.qdeq q)
  else if opc = 2 then (if q = .outq then .ok (.qunq q) else .error (.reservedQueue c))
  else if opc = 3 then (if q = .outq then .ok (.qclr q) else .error (.reservedQueue c))
  else if opc = 4 then .ok (.qempty q)
  else if opc = 5 then .ok (.qfull q)
  else if opc = 6 then .ok (.qpeek q)
  else .error (.reservedQueue c)

/-- A device to host frame as a word: bit `k` is the frame's bit in position `k` (R111). -/
def decodeD2H (w : BitVec 11) : Except Reject Instr :=
  let data : Byte := w.extractLsb' 1 8
  let parity := w.getLsbD 9
  if w.getLsbD 0 = false ∧ w.getLsbD 10 = true ∧ wfD2H data parity = true then
    .ok (.frameD2H data parity)
  else .error (.badFrameD2H w)

/-- A host to device frame as a word: bit `k` is the frame's bit in position `k`, bit 11 the device's ACK (R112). -/
def decodeH2D (w : BitVec 12) : Except Reject Instr :=
  let data : Byte := w.extractLsb' 1 8
  let parity := w.getLsbD 9
  if w.getLsbD 0 = false ∧ w.getLsbD 10 = true ∧ w.getLsbD 11 = false then
    .ok (.frameH2D data parity)
  else .error (.badFrameH2D w)

/-- The host to device link bytes by value (R114, R289, R290). The receive-error sentinel is not told apart here: that
test comes first, in `classify`. -/
def decodeLink (b : Byte) : Instr :=
  if b < 0x80 then .data007F (b.setWidth 7)
  else if b < 0xC0 then .data80BF (b.setWidth 6)
  else if b < 0xE0 then .dataC0DF (b.setWidth 5)
  else if b < 0xE8 then .dataE0E7 (b.setWidth 3)
  else if b < 0xEC then .dataE8EB (b.setWidth 2)
  else if b = 0xEC then .dataECEC
  else if b = 0xED then .cmdSetLeds
  else if b = 0xEE then .cmdEcho
  else if b = 0xEF then .cmdGenericEF
  else if b = 0xF0 then .cmdGenericF0
  else if b = 0xF1 then .cmdGenericF1
  else if b = 0xF2 then .cmdReadId
  else if b = 0xF3 then .cmdSetTypematic
  else if b = 0xF4 then .cmdGenericF4
  else if b = 0xF5 then .cmdGenericF5
  else if b = 0xF6 then .cmdGenericF6
  else if b = 0xF7 then .cmdGenericF7
  else if b = 0xF8 then .cmdGenericF8
  else if b = 0xF9 then .cmdGenericF9
  else if b = 0xFA then .cmdGenericFA
  else if b = 0xFB then .cmdGenericFB
  else if b = 0xFC then .cmdGenericFC
  else if b = 0xFD then .cmdGenericFD
  else if b = 0xFE then .cmdResend
  else .cmdReset

/-- The device to host link bytes (R115). -/
def decodeResponse (b : Byte) : Except Reject Instr :=
  if b = 0xFA then .ok .rspAck
  else if b = 0xFE then .ok .rspResend
  else if b = 0xAA then .ok .rspSelfTestPass
  else if b = 0xEE then .ok .rspEcho
  else if b = 0xAB then .ok .rspId1
  else if b = 0x83 then .ok .rspId2
  else if b = 0x29 then .ok .rspMake
  else if b = 0xF0 then .ok .rspBreakPrefix
  else .error (.notResponse b)

/-- The receive-error byte (R281): the sentinel is the byte equal to `RX_ERR_BYTE`. -/
def decodeRxError (b : Byte) : Except Reject Instr :=
  if b = Config.rxErrByte then .ok .sentinel else .error (.notRxError b)

/-- The three classes of R281. -/
inductive LinkClass where
  | sentinel | command | data
  deriving DecidableEq, Repr

/-- `classify(b)` of R281: the class of a byte taken from `INQ`. The sentinel is tested first. -/
def linkClass (b : Byte) : LinkClass :=
  if b = Config.rxErrByte then .sentinel else if Config.cmdMin ≤ b then .command else .data

/-- The link byte that a byte taken from `INQ` is, by its class. -/
def classify (b : Byte) : Instr :=
  match linkClass b with
  | .sentinel => .sentinel
  | .command | .data => decodeLink b

/-- The decoder: a word of an encoding space. Total; a word with a bit outside the space's width is rejected. -/
def decode (space : Space) (w : Nat) : Except Reject Instr :=
  if w < 2 ^ space.width then
    match space with
    | .port => .ok (decodePort (BitVec.ofNat 16 w))
    | .phase => .ok (decodePhase (BitVec.ofNat 2 w))
    | .state => decodeState (BitVec.ofNat 4 w)
    | .line => decodeLine (BitVec.ofNat 3 w)
    | .queue => decodeQueue (BitVec.ofNat 4 w)
    | .frameD2H => decodeD2H (BitVec.ofNat 11 w)
    | .frameH2D => decodeH2D (BitVec.ofNat 12 w)
    | .link => .ok (decodeLink (BitVec.ofNat 8 w))
    | .rxError => decodeRxError (BitVec.ofNat 8 w)
    | .response => decodeResponse (BitVec.ofNat 8 w)
  else .error (.tooWide space w)

/-! ### The encoder -/

/-- The encoding space of an instruction (R100). -/
def Instr.space : Instr → Space
  | .outEnq _ | .outClr | .outEmpty | .outFull | .outPeek => .port
  | .inEmpty | .inFull | .inPeek | .inDeq => .port
  | .lerrRd | .lerrClr | .ticksRd | .linesRd | .illegal _ => .port
  | .fall | .low | .rise | .high => .phase
  | .idle | .inhibited | .sendBit | .sendParity | .sendStopBit => .state
  | .receiveBit | .receiveParity | .receiveAck | .receiveEnd => .state
  | .clkHold | .clkRel | .datHold | .datRel | .clkRd | .datRd => .line
  | .qenq _ | .qdeq _ | .qunq _ | .qclr _ | .qempty _ | .qfull _ | .qpeek _ => .queue
  | .frameD2H _ _ => .frameD2H
  | .frameH2D _ _ => .frameH2D
  | .cmdReset | .cmdResend | .cmdReadId | .cmdSetTypematic | .cmdSetLeds | .cmdEcho => .link
  | .cmdGenericEF | .cmdGenericF0 | .cmdGenericF1 | .cmdGenericF4 | .cmdGenericF5 => .link
  | .cmdGenericF6 | .cmdGenericF7 | .cmdGenericF8 | .cmdGenericF9 | .cmdGenericFA => .link
  | .cmdGenericFB | .cmdGenericFC | .cmdGenericFD => .link
  | .data007F _ | .data80BF _ | .dataC0DF _ | .dataE0E7 _ | .dataE8EB _ | .dataECEC => .link
  | .sentinel => .rxError
  | .rspAck | .rspResend | .rspSelfTestPass | .rspEcho | .rspId1 | .rspId2 => .response
  | .rspMake | .rspBreakPrefix => .response

/-- A request word `{OP, IMM}` (R101, R117). -/
def portWord (op imm : Byte) : Req := op ++ imm

/-- The queue micro-operation code `{Q, OPC}` (R110). -/
def queueWord (q : QSel) (opc : BitVec 3) : BitVec 4 := q.bit ++ opc

/-- The bits of R111: `T = 1`, `P`, `D7..D0`, `S = 0`, the first in time the least significant. -/
def d2hWord (data : Byte) (parity : Bool) : BitVec 11 := 1#1 ++ (BitVec.ofBool parity ++ (data ++ 0#1))

/-- The bits of R112: the ACK 0, the stop 1, `P`, `D7..D0`, `S = 0`. -/
def h2dWord (data : Byte) (parity : Bool) : BitVec 12 :=
  0#1 ++ (1#1 ++ (BitVec.ofBool parity ++ (data ++ 0#1)))

/-- The encoder: the word of an instruction, in the space `Instr.space` names. A port operation that has no operand gets
`IMM = 0x00` (R117). -/
def encode : Instr → Nat
  | .outEnq imm => (portWord 0x01 imm).toNat
  | .outClr => (portWord 0x02 0).toNat
  | .outEmpty => (portWord 0x03 0).toNat
  | .outFull => (portWord 0x04 0).toNat
  | .outPeek => (portWord 0x05 0).toNat
  | .inEmpty => (portWord 0x13 0).toNat
  | .inFull => (portWord 0x14 0).toNat
  | .inPeek => (portWord 0x15 0).toNat
  | .inDeq => (portWord 0x16 0).toNat
  | .lerrRd => (portWord 0x20 0).toNat
  | .lerrClr => (portWord 0x21 0).toNat
  | .ticksRd => (portWord 0x30 0).toNat
  | .linesRd => (portWord 0x40 0).toNat
  | .illegal op => (portWord op 0).toNat
  | .fall => 0
  | .low => 1
  | .rise => 2
  | .high => 3
  | .idle => 0
  | .inhibited => 1
  | .sendBit => 2
  | .sendParity => 3
  | .sendStopBit => 4
  | .receiveBit => 5
  | .receiveParity => 6
  | .receiveAck => 7
  | .receiveEnd => 8
  | .clkHold => 0b000
  | .clkRel => 0b001
  | .datHold => 0b010
  | .datRel => 0b011
  | .clkRd => 0b100
  | .datRd => 0b110
  | .qenq q => (queueWord q 0).toNat
  | .qdeq q => (queueWord q 1).toNat
  | .qunq q => (queueWord q 2).toNat
  | .qclr q => (queueWord q 3).toNat
  | .qempty q => (queueWord q 4).toNat
  | .qfull q => (queueWord q 5).toNat
  | .qpeek q => (queueWord q 6).toNat
  | .frameD2H data parity => (d2hWord data parity).toNat
  | .frameH2D data parity => (h2dWord data parity).toNat
  | .cmdReset => 0xFF
  | .cmdResend => 0xFE
  | .cmdReadId => 0xF2
  | .cmdSetTypematic => 0xF3
  | .cmdSetLeds => 0xED
  | .cmdEcho => 0xEE
  | .cmdGenericEF => 0xEF
  | .cmdGenericF0 => 0xF0
  | .cmdGenericF1 => 0xF1
  | .cmdGenericF4 => 0xF4
  | .cmdGenericF5 => 0xF5
  | .cmdGenericF6 => 0xF6
  | .cmdGenericF7 => 0xF7
  | .cmdGenericF8 => 0xF8
  | .cmdGenericF9 => 0xF9
  | .cmdGenericFA => 0xFA
  | .cmdGenericFB => 0xFB
  | .cmdGenericFC => 0xFC
  | .cmdGenericFD => 0xFD
  | .data007F low => (0#1 ++ low).toNat
  | .data80BF low => (0b10#2 ++ low).toNat
  | .dataC0DF low => (0b110#3 ++ low).toNat
  | .dataE0E7 low => (0b11100#5 ++ low).toNat
  | .dataE8EB low => (0b111010#6 ++ low).toNat
  | .dataECEC => 0xEC
  | .sentinel => Config.rxErrByte.toNat
  | .rspAck => 0xFA
  | .rspResend => 0xFE
  | .rspSelfTestPass => 0xAA
  | .rspEcho => 0xEE
  | .rspId1 => 0xAB
  | .rspId2 => 0x83
  | .rspMake => 0x29
  | .rspBreakPrefix => 0xF0

/-! ### A word of the opcode table without its space

The table's rows of 8 bits or fewer share their words between spaces (0x02 is a phase, a state, a line code, a queue code
and a data byte). A word that comes without its space is read in the row that fixes the most, the narrow spaces first
(log entry 5). -/

/-- The 8-bit words, in that order: the codes of 2, 3 and 4 bits, then the rows that fix all eight bits, then the data
ranges. -/
def byteSpace (w : Nat) : Space :=
  if w < 4 then .phase
  else if w = 4 ∨ w = 6 then .line
  else if w < 9 then .state
  else if w = 9 ∨ w = 12 ∨ w = 13 ∨ w = 14 then .queue
  else if w = 0xAA ∨ w = 0xAB ∨ w = 0x83 ∨ w = 0x29 then .response
  else .link

/-- The space in which a word of `nbits` bits is read, for a word that comes without one (log entry 5). -/
def tableSpace (nbits w : Nat) : Space :=
  if nbits = 2 then .phase
  else if nbits = 3 then .line
  else if nbits = 4 then .state
  else if nbits = 11 then .frameD2H
  else if nbits = 12 then .frameH2D
  else if nbits ≤ 8 then byteSpace w
  else .port

/-- The instruction the decoder reads from a word numbered as the opcode table numbers it; none where it rejects. -/
def decodeTableWord (nbits w : Nat) : Option Instr :=
  match decode (tableSpace nbits w) w with
  | .ok i => some i
  | .error _ => none

/-! ### The assembler of R117 -/

/-- `OP` of a port mnemonic (R103), and whether it takes the immediate. -/
def portMnemonics : List (String × Byte × Bool) :=
  [("OUT.ENQ", 0x01, true), ("OUT.CLR", 0x02, false), ("OUT.EMPTY", 0x03, false), ("OUT.FULL", 0x04, false),
   ("OUT.PEEK", 0x05, false), ("IN.EMPTY", 0x13, false), ("IN.FULL", 0x14, false), ("IN.PEEK", 0x15, false),
   ("IN.DEQ", 0x16, false), ("LERR.RD", 0x20, false), ("LERR.CLR", 0x21, false), ("TICKS.RD", 0x30, false),
   ("LINES.RD", 0x40, false)]

/-- The value of a digit: its place among the digits of the base (at most 16). R117 names no case for the hexadecimal
digits; either is taken (DESIGN CHOICE, log entry 23). -/
def digitValue (base : Nat) (c : Char) : Option Nat :=
  ("0123456789abcdef".toList.take base).idxOf? c.toLower

/-- A non-empty row of digits, most significant first. -/
def digitsValue (base : Nat) : Nat → List Char → Option Nat
  | acc, [] => some acc
  | acc, c :: cs => (digitValue base c).bind fun d => digitsValue base (acc * base + d) cs

/-- An 8-bit immediate, written `0xNN` or in decimal (R117). The number of digits is not fixed, as long as the value is
below 256: 0x5, 0x0005 and 005 are taken (DESIGN CHOICE, log entry 23). -/
def parseImm (cs : List Char) : Option Byte :=
  let v := match cs with
    | '0' :: 'x' :: c :: rest => digitsValue 16 0 (c :: rest)
    | c :: rest => digitsValue 10 0 (c :: rest)
    | [] => none
  (v.filter fun n => n < 256).map fun n => BitVec.ofNat 8 n

/-- The fields of a line, up to a comment (R117). R117 names no separator: one or more spaces separate fields, and a tab
does not (DESIGN CHOICE, log entry 23). -/
def lineFields : List Char → List Char → List (List Char)
  | cur, [] => if cur.isEmpty then [] else [cur.reverse]
  | cur, c :: cs =>
    if c = ';' then (if cur.isEmpty then [] else [cur.reverse])
    else if c = ' ' then (if cur.isEmpty then lineFields [] cs else cur.reverse :: lineFields [] cs)
    else lineFields (c :: cur) cs

/-- The request word of one operation and its operand field, if it is written (R117). `IMM` is 0x00 where none is
written, on OUT.ENQ too (DEDUCED); an operand written after a mnemonic that takes none is rejected (DESIGN CHOICE): log
entry 21. -/
def assembleFields (mnemonic : List Char) (operand : Option (List Char)) : Option Req :=
  match portMnemonics.find? fun row => row.1.toList == mnemonic, operand with
  | some (_, op, _), none => some (portWord op 0x00)
  | some (_, op, true), some cs => (parseImm cs).map fun imm => portWord op imm
  | some (_, _, false), some _ => none
  | none, _ => none

/-- The request word of one line of a port program (R117): `MNEMONIC [operand]`, a comment after a semicolon. -/
def assembleLine (line : List Char) : Option Req :=
  match lineFields [] line with
  | [m] => assembleFields m none
  | [m, x] => assembleFields m (some x)
  | _ => none

/-- `KEY.MAKE` (R118). -/
def keyMake : List Req := [portWord 0x01 0x29]
/-- `KEY.BREAK` (R118). -/
def keyBreak : List Req := [portWord 0x01 0xF0, portWord 0x01 0x29]
/-- `REPLY b1 [b2]` (R118). -/
def replyRequests (bytes : List Byte) : List Req := portWord 0x02 0 :: bytes.map fun b => portWord 0x01 b

end Sys2Proof
end

