-- ==== Sys2Proof/Machine/State.lean ====
section
/-! DEFINITION. The machine's state as plain data: the block's state vector (spec/10_state.md R30 to R41), the variables
R305 gives the foreground agent, and the inputs and outputs of a step. -/
namespace Sys2Proof.Machine

/-- Why the machine stops with a fault: never. R310: "Nothing in this subsystem is fatal; there is no unrecoverable-error
path"; every abnormal condition of spec/60_exceptions.md is a port status, a sentinel byte or a flag, and the run goes on. -/
inductive Fault where
  deriving DecidableEq, Repr

/-- Why a step has no meaning. -/
inductive Refusal where
  /-- Raised by `exec` for an instruction with no meaning yet. Safe: the machine stops. -/
  | notModelled (mnemonic : String)
  /-- Raised by `step` for a word no rule gives an operation (R107, R109, R110, R111, R112, R115). Safe. -/
  | undecodable (why : Reject)
  /-- Raised by a HIGH tick with `ST` in 9..15 (R107: a model must refuse). Safe: no reachable state holds one. -/
  | reservedState (code : BitVec 4)
  /-- Raised by `QUNQ` and `QCLR` on `INQ` (R110 "nobody", R158, treatment U9: refuse). Safe. -/
  | nobodyIssues (q : QSel)
  /-- Raised by the foreground that keeps the contracts on a byte 0xFE that is no sentinel (R284: "The interpreter has no
  rule for it"). Safe: no such byte enters `INQ`. -/
  | resendAtInterpreter
  deriving DecidableEq, Repr

/-- A queue's backing store: (slot, byte) pairs, slots strictly rising, none of them 0x00, which is what a slot that is not
listed reads as (R41, R340: every slot is 0x00 at reset). -/
abbrev Memory := List Host.Cell

/-- A queue (R41): ten byte slots, a read cursor and a write cursor. -/
structure Queue where
  slot : Memory
  rd : Cursor
  wr : Cursor
  deriving DecidableEq, Repr

/-- The port status (R102, R311). -/
inductive Status where
  | ok | full | empty | illegal
  deriving DecidableEq, Repr, Inhabited

/-- The port response (R102): a status and a 32-bit result. -/
structure Response where
  status : Status
  result : Word
  deriving DecidableEq, Repr

/-- The variables of the foreground agent (R305), and the steps it has still to take. -/
structure Foreground where
  /-- The model's own: the port steps the foreground has still to take (R304), first one first. -/
  todo : List FgOp
  /-- The parameter-wait flag (R305). -/
  waiting : Bool
  /-- The start of the parameter wait, `t0` (R292). -/
  t0 : Word
  /-- The debounce count, `cnt` (R302). -/
  count : Nat
  /-- The debounce window's start, `w0` (R302). -/
  w0 : Word
  /-- The key-event bytes queued since the last `LERR = 0` (R303, R305). -/
  keys : List Byte
  deriving DecidableEq, Repr

/-- The state. The first twelve fields are R30's state vector; the rest are the foreground's variables, the inputs in
force (R48) and the outputs of the last step. -/
structure State where
  /-- `ST`, the handler state (R31). -/
  st : BitVec 4
  /-- `PH`, the tick phase (R32). -/
  ph : BitVec 2
  /-- `GEN`, generate clock (R33). -/
  gen : Bool
  /-- `CNT`, the remaining bit count (R34). -/
  cnt : BitVec 4
  /-- `PAR`, the accumulated parity (R35). -/
  par : Bool
  /-- `SH`, the byte being shifted (R36). -/
  sh : Byte
  /-- `LERR`, the link error flag (R37). -/
  lerr : Bool
  /-- `CLK_OE`, the clock drive: true = held low (R38). -/
  clkOe : Bool
  /-- `DAT_OE`, the data drive: true = held low (R39). -/
  datOe : Bool
  /-- `TICKS`, the tick counter (R40). -/
  ticks : Word
  /-- `OUTQ` (R41). -/
  outq : Queue
  /-- `INQ` (R41). -/
  inq : Queue
  /-- The foreground agent's variables (R305). -/
  fg : Foreground
  /-- Input: the host's drive of the clock in force, true = not driving (R48, R238). -/
  hclk : Bool
  /-- Input: the host's drive of the data line in force (R48, R238). -/
  hdat : Bool
  /-- Input: the last port request word (R48, R250). -/
  req : Req
  /-- Output: what the last operation returned (R102). -/
  resp : Response
  /-- Output: the bits presented on the device clock pulses of the last frame (R199). -/
  wire : List Bool
  /-- The model's own: the harness script still to run (R118). -/
  script : List Item
  /-- The model's own: counts the steps taken from `Config.freeEvent`. -/
  seq : Nat
  deriving DecidableEq, Repr

/-- A queue after reset (R340). -/
def Queue.reset : Queue := { slot := [], rd := 0, wr := 0 }

/-- The foreground's variables after reset: "each reset to 0 or empty" (R305). -/
def Foreground.reset : Foreground := { todo := [], waiting := false, t0 := 0, count := 0, w0 := 0, keys := [] }

/-- The machine after reset (R340, R341). The inputs and outputs are no state of the block; their values here are the
model's (log entry 6). -/
def State.reset : State where
  st := 0
  ph := 0
  gen := false
  cnt := 0
  par := false
  sh := 0
  lerr := false
  clkOe := false
  datOe := false
  ticks := 0
  outq := Queue.reset
  inq := Queue.reset
  fg := Foreground.reset
  hclk := true
  hdat := true
  req := 0
  resp := { status := .ok, result := 0 }
  wire := []
  script := []
  seq := 0

end Sys2Proof.Machine
end

