-- ==== Sys2Proof/Machine/Operands.lean ====
section
/-! DEFINITION. The operand forms: the fields of a request word, the operand of a micro-operation, the packing of results,
and the bits of a wire frame (R101, R102, R105, R111, R112). -/
namespace Sys2Proof.Machine

/-- What one step answers. -/
abbrev Outcome := Host.Outcome State Fault Refusal

/-- `IMM = req[7:0]`, taken as is (R105). -/
def reqImm (req : Req) : Byte := req.extractLsb' 0 8

/-- The byte a `QENQ` micro-operation takes (log entry 7): the immediate of the port request on `OUTQ` (R251), the shift
register on `INQ` (R45, R194). -/
def enqOperand (q : QSel) (s : State) : Byte :=
  match q with
  | .outq => reqImm s.req
  | .inq => s.sh

/-- A byte result: `zext_32(b)` (R102). -/
def byteResult (b : Byte) : Word := b.setWidth 32

/-- A Boolean result: `zext_32(0)` or `zext_32(1)` (R102). -/
def boolResult (b : Bool) : Word := if b then 1 else 0

/-- `zext_32({DAT(), CLK()})`: bit 0 is the clock level and bit 1 the data level (R105). -/
def linesResult (clk dat : Bool) : Word := (BitVec.ofBool dat ++ BitVec.ofBool clk).setWidth 32

/-- The code of a status (R102). -/
def Status.code : Status → BitVec 2
  | .ok => 0
  | .full => 1
  | .empty => 2
  | .illegal => 3

/-- The response as one word (R100, R102). The spec gives two fields, 2 and 32 bits wide, and no order of them in a word:
`STATUS` above `RESULT` is the model's (DESIGN CHOICE, log entry 20). -/
def Response.word (r : Response) : BitVec 34 := r.status.code ++ r.result

/-- The data bits of a byte in time order, the least significant first (R73, R111). -/
def dataBits (b : Byte) : List Bool := (List.range 8).map fun i => b.getLsbD i

/-- The 11 bits of a device to host frame in time order (R111): `S = 0`, `D0..D7`, `P`, `T = 1`. -/
def frameBits (data : Byte) (parity : Bool) : List Bool :=
  [false] ++ dataBits data ++ [parity] ++ [true]

/-- The 11 bits carried by the device clock pulses of a host to device frame (R199): the host's start bit, `D0..D7`, `P`,
and the device's ACK, which is 0. -/
def ackedBits (data : Byte) (parity : Bool) : List Bool :=
  [false] ++ dataBits data ++ [parity] ++ [false]

/-- The host's drive `(hclk, hdat)` at the HIGH ticks of a host to device frame (R112), one entry a clock period (log
entry 8): it holds the clock low, pulls data low, releases the clock; then `D0..D7`, `P`; then it releases data, and stays
off both lines while the device acknowledges. -/
def h2dDrive (data : Byte) (parity : Bool) : List (Bool × Bool) :=
  [(false, true), (false, false), (true, false)] ++
    (dataBits data).map (fun d => (true, d)) ++ [(true, parity), (true, true), (true, true)]

end Sys2Proof.Machine
end

