-- ==== Sys2Proof/Machine/Flags.lean ====
section
/-! DEFINITION. The flags: accumulated parity, the odd-parity bit, and the bit count (R34, R35, R189 to R193, R198). -/
namespace Sys2Proof.Machine

/-- `PAR xor b`: one more bit into the running count of 1s, modulo 2 (R35). -/
def accumulate (par b : Bool) : Bool := par ^^ b

/-- The odd-parity bit SendParity drives: `p = 1 xor PAR` (R190). -/
def parityBit (par : Bool) : Bool := !par

/-- ReceiveAck's verdict: the frame is valid when the total count of 1s is odd, so `PAR = 1` (R194). -/
def parityValid (par : Bool) : Bool := par

/-- The odd-parity bit of a byte: `P = 1 xor (popcount(b) mod 2)` (R111). -/
def oddParity (b : Byte) : Bool := popcount b % 2 == 0

/-- `CNT - 1` (R189, R192). Where `CNT = 0` no rule states the value: it is free (log entry 4). -/
def countDown (cnt : BitVec 4) (seq : Nat) (ticks : Word) : BitVec 4 :=
  if cnt = 0 then Config.freeCount seq ticks else cnt - 1

end Sys2Proof.Machine
end

