-- ==== Sys2Proof/Machine/Ops.lean ====
section
/-! DEFINITION. The named operations every meaning is made of: the store of a queue, the queue primitives
(spec/40_queue.md), the two lines (spec/42_bus_lines.md), the tick's counters, the helpers of the engine (R185, R186), the
takeover event (R316) and reset (R340).

The block takes no trap and saves no context (R310, R323, R324), so there is no exception entry and no return from one:
the one event that redirects the engine is the takeover, `takeover`. -/
namespace Sys2Proof.Machine

/-! ### The store -/

/-- What a slot that is not listed reads as: its reset value (R41). -/
def unlisted : Byte := 0x00

/-- `MemRead` (R9): one slot of a store. -/
def Memory.read : Memory → Nat → Byte
  | [], _ => unlisted
  | (a, v) :: m, k => if k = a then v else Memory.read m k

/-- `MemWrite` (R9): one slot of a store. The list stays in rising order, and a slot that goes back to what an unlisted
one reads as leaves it. -/
def Memory.write : Memory → Nat → Byte → Memory
  | [], k, v => if v = unlisted then [] else [(k, v)]
  | (a, w) :: m, k, v =>
    if k < a then (if v = unlisted then (a, w) :: m else (k, v) :: (a, w) :: m)
    else if k = a then (if v = unlisted then m else (k, v) :: m)
    else (a, w) :: Memory.write m k v

/-- The slots are strictly rising from `lo` on, lie in 0..9, and none holds the unlisted value. -/
def Memory.wfFrom : Nat → Memory → Bool
  | _, [] => true
  | lo, (a, v) :: m => decide (lo ≤ a) && decide (a < Config.qslots) && decide (v ≠ unlisted) && Memory.wfFrom (a + 1) m

/-- The canonical form of a store. -/
def Memory.wf (m : Memory) : Bool := Memory.wfFrom 0 m

/-! ### The queue primitives (R150 to R157) -/

/-- `Q.SLOT[i]` (R41). -/
def Queue.read (q : Queue) (i : Cursor) : Byte := Memory.read q.slot i.val

/-- `COUNT(Q) = (Q.WR - Q.RD) mod 10` (R42). -/
def Queue.count (q : Queue) : Nat := (q.wr - q.rd).val

/-- `QENQ(Q, b)` (R151). -/
def Queue.enq (q : Queue) (b : Byte) : Status × Queue :=
  if q.count = Config.qcap then (.full, q)
  else (.ok, { q with slot := Memory.write q.slot q.wr.val b, wr := q.wr + 1 })

/-- `QDEQ(Q)` (R152): the status, the byte (0 when empty) and the queue. -/
def Queue.deq (q : Queue) : Status × Byte × Queue :=
  if q.count = 0 then (.empty, 0, q) else (.ok, q.read q.rd, { q with rd := q.rd + 1 })

/-- `QUNQ(Q)` (R153). -/
def Queue.unq (q : Queue) : Status × Queue :=
  if q.count = Config.qcap then (.full, q) else (.ok, { q with rd := q.rd - 1 })

/-- `QCLR(Q)` (R154). -/
def Queue.clr (q : Queue) : Queue := { q with wr := q.rd }

/-- `QEMPTY(Q)` (R155). -/
def Queue.isEmpty (q : Queue) : Bool := q.count == 0

/-- `QFULL(Q)` (R156). -/
def Queue.isFull (q : Queue) : Bool := q.count == Config.qcap

/-- `QPEEK(Q)` (R157): the status and the byte, 0 when empty. -/
def Queue.peek (q : Queue) : Status × Byte :=
  if q.count = 0 then (.empty, 0) else (.ok, q.read q.rd)

/-- The bytes of a queue from the front (R42): the `k`-th is `SLOT[(RD + k) mod 10]`. -/
def Queue.contents (q : Queue) : List Byte :=
  (List.range q.count).map fun k => q.read (q.rd + Fin.ofNat 10 k)

/-! ### Access to the state -/

/-- A queue of the state. -/
def State.queue (s : State) : QSel → Queue
  | .outq => s.outq
  | .inq => s.inq

/-- The state with one queue replaced. -/
def State.withQueue (s : State) : QSel → Queue → State
  | .outq, q => { s with outq := q }
  | .inq, q => { s with inq := q }

/-- The state with the host's drive in force (R238). -/
def State.withHost (s : State) (hclk hdat : Bool) : State := { s with hclk := hclk, hdat := hdat }

/-- The state with a response driven (R102). -/
def State.respond (s : State) (status : Status) (result : Word) : State :=
  { s with resp := { status := status, result := result } }

/-! ### The lines (R230 to R236) -/

/-- `CLK() = (not CLK_OE) and hclk` (R230). -/
def State.clk (s : State) : Bool := !s.clkOe && s.hclk

/-- `DAT() = (not DAT_OE) and hdat` (R230). -/
def State.dat (s : State) : Bool := !s.datOe && s.hdat

/-- `CLK.HOLD` (R231). -/
def State.holdClk (s : State) : State := { s with clkOe := true }

/-- `CLK.REL` (R232). -/
def State.relClk (s : State) : State := { s with clkOe := false }

/-- `DAT.HOLD` (R233). -/
def State.holdDat (s : State) : State := { s with datOe := true }

/-- `DAT.REL` (R234). -/
def State.relDat (s : State) : State := { s with datOe := false }

/-- Put a bit on the data line: a 1 releases it, a 0 holds it (R189, R190). -/
def State.placeBit (s : State) (b : Bool) : State := if b then s.relDat else s.holdDat

/-! ### The engine's helpers -/

/-- `ST <- s` (R184): the next handler. -/
def State.goto (s : State) (h : Handler) : State := { s with st := h.code }

/-- The last part of `TICK` (R180): `PH` and `TICKS` advance. -/
def State.advance (s : State) : State := { s with ph := s.ph + 1, ticks := s.ticks + 1 }

/-- `EnterIdle()` (R185). -/
def State.enterIdle (s : State) : State := { s with st := Handler.idle.code, cnt := 0, par := false, sh := 0 }

/-- The start of a send (R186): the start bit, the clock, the byte into the shift register. -/
def State.startSend (s : State) : State :=
  { s with
    datOe := true, gen := true, sh := s.outq.deq.2.1, outq := s.outq.deq.2.2, cnt := 8, par := false
    st := Handler.sendBit.code }

/-- The test of the Idle decision that starts a send (R186): data high, `OUTQ` non-empty, no sticky link error. -/
def State.maySend (s : State) : Bool := s.dat && !s.outq.isEmpty && !s.lerr

/-- `IdleLogic()` (R186). -/
def State.idleLogic (s : State) : State :=
  let t := { s.enterIdle with gen := false, clkOe := false }
  if t.clk = false then t.goto .inhibited
  else if t.maySend then t.startSend
  else t

/-- The takeover (R189, R190, R316): data released, `LERR <- 1`, to Inhibited; `SH`, `CNT`, `PAR` and `GEN` are kept. -/
def State.takeover (s : State) : State := { s with datOe := false, lerr := true, st := Handler.inhibited.code }

/-- The delivery of ReceiveAck (R194): a valid Resend puts the last byte back, any other valid byte and every bad frame
enters `INQ`. The status is ignored (R317, R318). -/
def State.deliver (s : State) : State :=
  if parityValid s.par then
    if s.sh = Config.resendCode then { s with outq := s.outq.unq.2 }
    else { s with inq := (s.inq.enq s.sh).2 }
  else { s with inq := (s.inq.enq Config.rxErrByte).2 }

/-- `RESET()` (R340): every field of the block, and the foreground's variables (R305), at their reset values. The inputs
and outputs, the script and the counter are not the block's (log entry 9). -/
def State.applyReset (s : State) : State :=
  { State.reset with
    hclk := s.hclk, hdat := s.hdat, req := s.req, resp := s.resp, wire := s.wire, script := s.script, seq := s.seq }

/-! ### The foreground's own operations (R282, R292, R301, R303) -/

/-- Is this a step of the parameter wait? -/
def isWaitStep : FgOp → Bool
  | .waitStart | .waitTake | .waitDeadline => true
  | _ => false

/-- Is this the enqueue of a key event's byte (R299, R300)? -/
def isKeyStep : FgOp → Bool
  | .respond b => b == 0x29 || b == 0xF0
  | _ => false

/-- The foreground's next steps, before those it has still to take. -/
def State.push (s : State) (ops : List FgOp) : State := { s with fg := { s.fg with todo := ops ++ s.fg.todo } }

/-- The parameter wait ends (R292). -/
def State.endWait (s : State) : State :=
  { s with fg := { s.fg with waiting := false, todo := s.fg.todo.filter fun o => !isWaitStep o } }

/-- The reply to a command (R282, `REPLY` of R118): the wait, if there is one, ends (R292); then `OUT.CLR`, then the
response bytes, each a step of its own (R352), then what follows the reply. -/
def State.reply (s : State) (bytes : List Byte) (after : List FgOp) : State :=
  s.endWait.push (.request (portWord 0x02 0) :: (bytes.map .respond ++ after))

/-- A data byte (R290, R292): the parameter inside a parameter wait, dropped outside one. -/
def State.takeData (s : State) : State := if s.fg.waiting then s.endWait else s

/-- `OUT.ENQ b` as the foreground issues a response byte (R251, R115). Where `OUTQ` is full R312 leaves it to the caller to
drop or defer the byte: it is dropped, and the foreground goes on (DESIGN CHOICE, log entry 24; for a key event's byte see
`State.enqueueKey`). -/
def State.enqueue (s : State) (b : Byte) : State :=
  { s with outq := (s.outq.enq b).2, resp := { status := (s.outq.enq b).1, result := 0 } }

/-- The steps of R303: `OUT.CLR`, `KEY.BREAK` where a key event's byte was queued, `LERR.CLR`. -/
def recoverySteps (withBreak : Bool) : List FgOp :=
  [.request (portWord 0x02 0)] ++ (if withBreak then [.respond 0xF0] else []) ++ [.request (portWord 0x21 0)]

/-- A key event's byte (R299 to R301): it is enqueued and recorded. Where the queue is full it is not sent, and the rest of
the event gives way to the steps of R303 (log entry 10). -/
def State.enqueueKey (s : State) (b : Byte) (next : List FgOp) : State :=
  let t := s.enqueue b
  if t.resp.status = .ok then
    { t with fg := { t.fg with keys := t.fg.keys ++ [b], todo := next ++ t.fg.todo } }
  else
    { t with fg := { t.fg with todo := recoverySteps true ++ t.fg.todo.dropWhile isKeyStep } }

/-! ### Composition -/

/-- Go on from a next state; a fault or a refusal ends the run. -/
def andThen (o : Outcome) (k : State → Outcome) : Outcome :=
  match o with
  | .next s => k s
  | .fault r => .fault r
  | .refused r => .refused r

end Sys2Proof.Machine
end

