-- ==== Sys2Proof/Machine/Handlers.lean ====
section
/-! DEFINITION. The nine handlers (spec/41_tick_engine.md R187 to R195). A handler is what one HIGH tick does besides the
advance of `PH` and `TICKS`. -/
namespace Sys2Proof.Machine

/-- SendBit (R189). -/
def sendBitStep (s : State) : State :=
  if s.clk = false then s.takeover
  else
    let n := countDown s.cnt s.seq s.ticks
    let t := { s.placeBit (s.sh.getLsbD 0) with par := accumulate s.par (s.sh.getLsbD 0), sh := s.sh >>> 1, cnt := n }
    if n = 0 then t.goto .sendParity else t

/-- SendParity (R190). -/
def sendParityStep (s : State) : State :=
  if s.clk = false then s.takeover else (s.placeBit (parityBit s.par)).goto .sendStopBit

/-- Inhibited (R188). -/
def inhibitedStep (s : State) : State :=
  if s.clk = false then s
  else if s.dat then s.enterIdle
  else { s with cnt := 8, par := false, gen := true, st := Handler.receiveBit.code }

/-- ReceiveBit (R192): the new bit goes in at bit 7. -/
def receiveBitStep (s : State) : State :=
  let b := s.dat
  let n := countDown s.cnt s.seq s.ticks
  let t := { s with sh := BitVec.ofBool b ++ s.sh.extractLsb' 1 7, par := accumulate s.par b, cnt := n }
  if n = 0 then t.goto .receiveParity else t

/-- ReceiveAck (R194). -/
def receiveAckStep (s : State) : State :=
  if s.dat = false then s else s.holdDat.deliver.goto .receiveEnd

/-- Idle (R187). -/
def execIdle (s : State) : Outcome := .next s.idleLogic

/-- Inhibited (R188). -/
def execInhibited (s : State) : Outcome := .next (inhibitedStep s)

/-- SendBit (R189). -/
def execSendBit (s : State) : Outcome := .next (sendBitStep s)

/-- SendParity (R190). -/
def execSendParity (s : State) : Outcome := .next (sendParityStep s)

/-- SendStopBit (R191). -/
def execSendStopBit (s : State) : Outcome := .next s.relDat.enterIdle

/-- ReceiveBit (R192). -/
def execReceiveBit (s : State) : Outcome := .next (receiveBitStep s)

/-- ReceiveParity (R193). -/
def execReceiveParity (s : State) : Outcome := .next ({ s with par := accumulate s.par s.dat }.goto .receiveAck)

/-- ReceiveAck (R194). -/
def execReceiveAck (s : State) : Outcome := .next (receiveAckStep s)

/-- ReceiveEnd (R195). -/
def execReceiveEnd (s : State) : Outcome := .next s.relDat.idleLogic

/-- The dispatch on `ST` (R184). -/
def runHandler (h : Handler) (s : State) : Outcome :=
  match h with
  | .idle => execIdle s
  | .inhibited => execInhibited s
  | .sendBit => execSendBit s
  | .sendParity => execSendParity s
  | .sendStopBit => execSendStopBit s
  | .receiveBit => execReceiveBit s
  | .receiveParity => execReceiveParity s
  | .receiveAck => execReceiveAck s
  | .receiveEnd => execReceiveEnd s

end Sys2Proof.Machine
end

