-- ==== Sys2Proof/Machine/Phases.lean ====
section
/-! DEFINITION. The tick (spec/41_tick_engine.md R180 to R184): a phase's meaning is its action and the advance of `PH` and
`TICKS` that ends every tick. -/
namespace Sys2Proof.Machine

/-- FALL (R181). -/
def execFall (s : State) : Outcome := .next (if s.gen then s.holdClk else s).advance

/-- LOW (R182). -/
def execLow (s : State) : Outcome := .next s.advance

/-- RISE (R183). -/
def execRise (s : State) : Outcome := .next (if s.gen then s.relClk else s).advance

/-- HIGH (R184): the handler `ST` names; a reserved code is refused (R107). -/
def execHigh (s : State) : Outcome :=
  match Handler.ofCode s.st with
  | some h => andThen (runHandler h s) fun t => .next t.advance
  | none => .refused (.reservedState s.st)

/-- `TICK` (R180), under the host drive in force. -/
def tick (s : State) : Outcome :=
  if s.ph = 0 then execFall s else if s.ph = 1 then execLow s else if s.ph = 2 then execRise s else execHigh s

/-- `n` ticks, one after the other, under the host drive in force (R118, `TICK n`). -/
def ticksN : Nat → State → Outcome
  | 0, s => .next s
  | n + 1, s => andThen (tick s) (ticksN n)

/-- The rest of the clock period: the ticks before its HIGH tick under the drive in force, then the HIGH tick under the
drive `(hclk, hdat)` (R118: a host line takes effect at the HIGH tick of its period). -/
def period (hclk hdat : Bool) (s : State) : Outcome :=
  andThen (ticksN (3 - s.ph.toNat) s) fun t => tick (t.withHost hclk hdat)

end Sys2Proof.Machine
end

