-- ==== Sys2Proof/Machine/Frames.lean ====
section
/-! DEFINITION. The wire frames (R111, R112, R199). A frame takes eleven clock periods on the wire, so its meaning is a run
of ticks: the engine's own, under what the host does during the frame (log entry 8). -/
namespace Sys2Proof.Machine

/-- The bit presented on the device clock pulse of the coming FALL tick, if there is a pulse (R199): the data level just
after a FALL tick with `GEN = 1`. -/
def presented (s : State) : List Bool := if s.ph = 0 ∧ s.gen = true then [s.dat] else []

/-- The host reads a frame: clock periods under the drive in force, until eleven bits were presented or the fuel is used
up. -/
def listen : Nat → List Bool → State → Outcome
  | 0, bits, s => .next { s with wire := bits }
  | n + 1, bits, s =>
    if bits.length = 11 then .next { s with wire := bits }
    else andThen (period s.hclk s.hdat s) (listen n (bits ++ presented s))

/-- The host drives its lines, one entry a clock period; the bits presented are collected. -/
def drive : List (Bool × Bool) → List Bool → State → Outcome
  | [], bits, s => .next { s with wire := bits }
  | (hclk, hdat) :: rest, bits, s => andThen (period hclk hdat s) (drive rest (bits ++ presented s))

/-- Was this frame on the wire? The result says so (log entry 8). -/
def State.report (s : State) (bits : List Bool) : State := s.respond .ok (boolResult (s.wire == bits))

/-- A device to host frame (R111): the engine runs for the frame's time, at most the period of the Idle decision and the
eleven of the frame; the result is 1 where the wire carried these bits. -/
def execFrameD2H (data : Byte) (parity : Bool) (s : State) : Outcome :=
  andThen (listen 12 [] s) fun t => .next (t.report (frameBits data parity))

/-- A host to device frame (R112): the host sends the byte and the parity bit; the result is 1 where the device clocked
all of it and acknowledged. -/
def execFrameH2D (data : Byte) (parity : Bool) (s : State) : Outcome :=
  andThen (drive (h2dDrive data parity) [] s) fun t => .next (t.report (ackedBits data parity))

end Sys2Proof.Machine
end

