-- ==== Sys2Proof/Machine/Lines.lean ====
section
/-! DEFINITION. The line micro-operations (spec/42_bus_lines.md R231 to R236). A read returns its level as a result. -/
namespace Sys2Proof.Machine

/-- `CLK.HOLD` (R231). -/
def execClkHold (s : State) : Outcome := .next s.holdClk

/-- `CLK.REL` (R232). -/
def execClkRel (s : State) : Outcome := .next s.relClk

/-- `DAT.HOLD` (R233). -/
def execDatHold (s : State) : Outcome := .next s.holdDat

/-- `DAT.REL` (R234). -/
def execDatRel (s : State) : Outcome := .next s.relDat

/-- `CLK.RD` (R235). -/
def execClkRd (s : State) : Outcome := .next (s.respond .ok (boolResult s.clk))

/-- `DAT.RD` (R236). -/
def execDatRd (s : State) : Outcome := .next (s.respond .ok (boolResult s.dat))

end Sys2Proof.Machine
end

