-- ==== Sys2Proof/Machine/Link.lean ====
section
/-! DEFINITION. The host to device link bytes, as the foreground handles them (spec/44_link_contracts.md R281 to R292).
A reply is the port steps it consists of: they become the foreground's next steps, since ticks may fall between them
(R118, R352). -/
namespace Sys2Proof.Machine

/-- 0xFF, reset (R283): `REPLY 0xFA 0xAA`; the block is not reset. -/
def execCmdReset (s : State) : Outcome := .next (s.reply [0xFA, 0xAA] [])

/-- 0xFE, resend (R284): the engine's own `QUNQ(OUTQ)`, its status ignored. -/
def execCmdResend (s : State) : Outcome := .next { s with outq := s.outq.unq.2 }

/-- 0xF2, read-ID (R285): `REPLY 0xAB 0x83`, with no 0xFA. -/
def execCmdReadId (s : State) : Outcome := .next (s.reply [0xAB, 0x83] [])

/-- 0xF3, set-typematic-rate-delay (R286): `REPLY 0xFA`, then the parameter wait. -/
def execCmdSetTypematic (s : State) : Outcome := .next (s.reply [0xFA] [.waitStart])

/-- 0xED, set/reset LEDs (R287): `REPLY 0xFA`, then the parameter wait. -/
def execCmdSetLeds (s : State) : Outcome := .next (s.reply [0xFA] [.waitStart])

/-- 0xEE, echo (R288): `REPLY 0xEE`. -/
def execCmdEcho (s : State) : Outcome := .next (s.reply [0xEE] [])

/-- The generic acknowledge (R289): `REPLY 0xFA`. -/
def State.acknowledge (s : State) : State := s.reply [0xFA] []

/-- 0xEF, any other command (R289). -/
def execCmdGenericEF (s : State) : Outcome := .next s.acknowledge

/-- 0xF0, any other command (R289). -/
def execCmdGenericF0 (s : State) : Outcome := .next s.acknowledge

/-- 0xF1, any other command (R289). -/
def execCmdGenericF1 (s : State) : Outcome := .next s.acknowledge

/-- 0xF4, any other command (R289). -/
def execCmdGenericF4 (s : State) : Outcome := .next s.acknowledge

/-- 0xF5, any other command (R289). -/
def execCmdGenericF5 (s : State) : Outcome := .next s.acknowledge

/-- 0xF6, any other command (R289). -/
def execCmdGenericF6 (s : State) : Outcome := .next s.acknowledge

/-- 0xF7, any other command (R289). -/
def execCmdGenericF7 (s : State) : Outcome := .next s.acknowledge

/-- 0xF8, any other command (R289). -/
def execCmdGenericF8 (s : State) : Outcome := .next s.acknowledge

/-- 0xF9, any other command (R289). -/
def execCmdGenericF9 (s : State) : Outcome := .next s.acknowledge

/-- 0xFA, any other command (R289). -/
def execCmdGenericFA (s : State) : Outcome := .next s.acknowledge

/-- 0xFB, any other command (R289). -/
def execCmdGenericFB (s : State) : Outcome := .next s.acknowledge

/-- 0xFC, any other command (R289). -/
def execCmdGenericFC (s : State) : Outcome := .next s.acknowledge

/-- 0xFD, any other command (R289). -/
def execCmdGenericFD (s : State) : Outcome := .next s.acknowledge

/-- 0x00..0x7F, a data byte (R290, R292); its value has no effect (R286, R287). -/
def execData007F (_low : BitVec 7) (s : State) : Outcome := .next s.takeData

/-- 0x80..0xBF, a data byte (R290, R292); its value has no effect (R286, R287). -/
def execData80BF (_low : BitVec 6) (s : State) : Outcome := .next s.takeData

/-- 0xC0..0xDF, a data byte (R290, R292); its value has no effect (R286, R287). -/
def execDataC0DF (_low : BitVec 5) (s : State) : Outcome := .next s.takeData

/-- 0xE0..0xE7, a data byte (R290, R292); its value has no effect (R286, R287). -/
def execDataE0E7 (_low : BitVec 3) (s : State) : Outcome := .next s.takeData

/-- 0xE8..0xEB, a data byte (R290, R292); its value has no effect (R286, R287). -/
def execDataE8EB (_low : BitVec 2) (s : State) : Outcome := .next s.takeData

/-- 0xEC, a data byte (R290, R292). -/
def execDataECEC (s : State) : Outcome := .next s.takeData

/-- The receive-error sentinel (R291): `OUT.ENQ 0xFE` with no clear; a parameter wait goes on. -/
def execSentinel (s : State) : Outcome := .next (s.push [.respond 0xFE])

end Sys2Proof.Machine
end

