-- ==== Sys2Proof/Machine/Port.lean ====
section
/-! DEFINITION. The thirteen port operations and ILLEGAL (spec/43_port_ops.md R250 to R264). -/
namespace Sys2Proof.Machine

/-- `OUT.ENQ imm8` (R251). -/
def execOutEnq (imm : Byte) (s : State) : Outcome :=
  .next ({ s with outq := (s.outq.enq imm).2 }.respond (s.outq.enq imm).1 0)

/-- `OUT.CLR` (R252). -/
def execOutClr (s : State) : Outcome := .next ({ s with outq := s.outq.clr }.respond .ok 0)

/-- `OUT.EMPTY` (R253). -/
def execOutEmpty (s : State) : Outcome := .next (s.respond .ok (boolResult s.outq.isEmpty))

/-- `OUT.FULL` (R254). -/
def execOutFull (s : State) : Outcome := .next (s.respond .ok (boolResult s.outq.isFull))

/-- `OUT.PEEK` (R255). -/
def execOutPeek (s : State) : Outcome := .next (s.respond s.outq.peek.1 (byteResult s.outq.peek.2))

/-- `IN.EMPTY` (R256). -/
def execInEmpty (s : State) : Outcome := .next (s.respond .ok (boolResult s.inq.isEmpty))

/-- `IN.FULL` (R257). -/
def execInFull (s : State) : Outcome := .next (s.respond .ok (boolResult s.inq.isFull))

/-- `IN.PEEK` (R258). -/
def execInPeek (s : State) : Outcome := .next (s.respond s.inq.peek.1 (byteResult s.inq.peek.2))

/-- `IN.DEQ` (R259). -/
def execInDeq (s : State) : Outcome :=
  .next ({ s with inq := s.inq.deq.2.2 }.respond s.inq.deq.1 (byteResult s.inq.deq.2.1))

/-- `LERR.RD` (R260). -/
def execLerrRd (s : State) : Outcome := .next (s.respond .ok (boolResult s.lerr))

/-- `LERR.CLR` (R261). -/
def execLerrClr (s : State) : Outcome := .next ({ s with lerr := false }.respond .ok 0)

/-- `TICKS.RD` (R262). -/
def execTicksRd (s : State) : Outcome := .next (s.respond .ok s.ticks)

/-- `LINES.RD` (R263). -/
def execLinesRd (s : State) : Outcome := .next (s.respond .ok (linesResult s.clk s.dat))

/-- Every other request word (R264): nothing changes, whatever `OP` is. -/
def execIllegal (_op : Byte) (s : State) : Outcome := .next (s.respond .illegal 0)

end Sys2Proof.Machine
end

