-- ==== Sys2Proof/Machine/Queues.lean ====
section
/-! DEFINITION. The queue micro-operations (spec/40_queue.md R151 to R158), each on the queue its code names. The status
and the value it returns are driven as a response. `QUNQ` and `QCLR` are issued on `OUTQ` only (R110, R158). -/
namespace Sys2Proof.Machine

/-- `QENQ` (R151), of the byte at the queue's input (log entry 7). -/
def execQenq (q : QSel) (s : State) : Outcome :=
  let r := (s.queue q).enq (enqOperand q s)
  .next ((s.withQueue q r.2).respond r.1 0)

/-- `QDEQ` (R152). -/
def execQdeq (q : QSel) (s : State) : Outcome :=
  let r := (s.queue q).deq
  .next ((s.withQueue q r.2.2).respond r.1 (byteResult r.2.1))

/-- `QUNQ` (R153). -/
def execQunq (q : QSel) (s : State) : Outcome :=
  match q with
  | .outq => .next ({ s with outq := s.outq.unq.2 }.respond s.outq.unq.1 0)
  | .inq => .refused (.nobodyIssues .inq)

/-- `QCLR` (R154). -/
def execQclr (q : QSel) (s : State) : Outcome :=
  match q with
  | .outq => .next ({ s with outq := s.outq.clr }.respond .ok 0)
  | .inq => .refused (.nobodyIssues .inq)

/-- `QEMPTY` (R155). -/
def execQempty (q : QSel) (s : State) : Outcome := .next (s.respond .ok (boolResult (s.queue q).isEmpty))

/-- `QFULL` (R156). -/
def execQfull (q : QSel) (s : State) : Outcome := .next (s.respond .ok (boolResult (s.queue q).isFull))

/-- `QPEEK` (R157). -/
def execQpeek (q : QSel) (s : State) : Outcome :=
  .next (s.respond (s.queue q).peek.1 (byteResult (s.queue q).peek.2))

end Sys2Proof.Machine
end

