-- ==== Sys2Proof/Machine/Responses.lean ====
section
/-! DEFINITION. The device to host link bytes (spec/44_link_contracts.md R293 to R300). Each is enqueued by the foreground
only, with `OUT.ENQ`. -/
namespace Sys2Proof.Machine

/-- 0xFA, ack (R293). -/
def execRspAck (s : State) : Outcome := .next (s.enqueue 0xFA)

/-- 0xFE, resend-request or error (R294). -/
def execRspResend (s : State) : Outcome := .next (s.enqueue 0xFE)

/-- 0xAA, self-test-pass (R295). -/
def execRspSelfTestPass (s : State) : Outcome := .next (s.enqueue 0xAA)

/-- 0xEE, echo-reply (R296). -/
def execRspEcho (s : State) : Outcome := .next (s.enqueue 0xEE)

/-- 0xAB, the first ID byte (R297). -/
def execRspId1 (s : State) : Outcome := .next (s.enqueue 0xAB)

/-- 0x83, the second ID byte (R298). -/
def execRspId2 (s : State) : Outcome := .next (s.enqueue 0x83)

/-- 0x29, the make code (R299): a key event's byte, recorded (R305). -/
def execRspMake (s : State) : Outcome := .next (s.enqueueKey 0x29 [])

/-- 0xF0, the break prefix (R300): a key event's byte, "always followed at once by 0x29", which is the next step. -/
def execRspBreakPrefix (s : State) : Outcome := .next (s.enqueueKey 0xF0 [.respond 0x29])

end Sys2Proof.Machine
end

