-- ==== Sys2Proof/Machine/Dispatch.lean ====
section
/-! DEFINITION. One arm per instruction. -/
namespace Sys2Proof.Machine

def exec (i : Instr) (s : State) : Host.Outcome State Fault Refusal :=
  match i with
  | .outEnq imm => Sys2Proof.Machine.execOutEnq imm s
  | .outClr => Sys2Proof.Machine.execOutClr s
  | .outEmpty => Sys2Proof.Machine.execOutEmpty s
  | .outFull => Sys2Proof.Machine.execOutFull s
  | .outPeek => Sys2Proof.Machine.execOutPeek s
  | .inEmpty => Sys2Proof.Machine.execInEmpty s
  | .inFull => Sys2Proof.Machine.execInFull s
  | .inPeek => Sys2Proof.Machine.execInPeek s
  | .inDeq => Sys2Proof.Machine.execInDeq s
  | .lerrRd => Sys2Proof.Machine.execLerrRd s
  | .lerrClr => Sys2Proof.Machine.execLerrClr s
  | .ticksRd => Sys2Proof.Machine.execTicksRd s
  | .linesRd => Sys2Proof.Machine.execLinesRd s
  | .illegal op => Sys2Proof.Machine.execIllegal op s
  | .fall => Sys2Proof.Machine.execFall s
  | .low => Sys2Proof.Machine.execLow s
  | .rise => Sys2Proof.Machine.execRise s
  | .high => Sys2Proof.Machine.execHigh s
  | .idle => Sys2Proof.Machine.execIdle s
  | .inhibited => Sys2Proof.Machine.execInhibited s
  | .sendBit => Sys2Proof.Machine.execSendBit s
  | .sendParity => Sys2Proof.Machine.execSendParity s
  | .sendStopBit => Sys2Proof.Machine.execSendStopBit s
  | .receiveBit => Sys2Proof.Machine.execReceiveBit s
  | .receiveParity => Sys2Proof.Machine.execReceiveParity s
  | .receiveAck => Sys2Proof.Machine.execReceiveAck s
  | .receiveEnd => Sys2Proof.Machine.execReceiveEnd s
  | .clkHold => Sys2Proof.Machine.execClkHold s
  | .clkRel => Sys2Proof.Machine.execClkRel s
  | .datHold => Sys2Proof.Machine.execDatHold s
  | .datRel => Sys2Proof.Machine.execDatRel s
  | .clkRd => Sys2Proof.Machine.execClkRd s
  | .datRd => Sys2Proof.Machine.execDatRd s
  | .qenq q => Sys2Proof.Machine.execQenq q s
  | .qdeq q => Sys2Proof.Machine.execQdeq q s
  | .qunq q => Sys2Proof.Machine.execQunq q s
  | .qclr q => Sys2Proof.Machine.execQclr q s
  | .qempty q => Sys2Proof.Machine.execQempty q s
  | .qfull q => Sys2Proof.Machine.execQfull q s
  | .qpeek q => Sys2Proof.Machine.execQpeek q s
  | .frameD2H data parity => Sys2Proof.Machine.execFrameD2H data parity s
  | .frameH2D data parity => Sys2Proof.Machine.execFrameH2D data parity s
  | .cmdReset => Sys2Proof.Machine.execCmdReset s
  | .cmdResend => Sys2Proof.Machine.execCmdResend s
  | .cmdReadId => Sys2Proof.Machine.execCmdReadId s
  | .cmdSetTypematic => Sys2Proof.Machine.execCmdSetTypematic s
  | .cmdSetLeds => Sys2Proof.Machine.execCmdSetLeds s
  | .cmdEcho => Sys2Proof.Machine.execCmdEcho s
  | .cmdGenericEF => Sys2Proof.Machine.execCmdGenericEF s
  | .cmdGenericF0 => Sys2Proof.Machine.execCmdGenericF0 s
  | .cmdGenericF1 => Sys2Proof.Machine.execCmdGenericF1 s
  | .cmdGenericF4 => Sys2Proof.Machine.execCmdGenericF4 s
  | .cmdGenericF5 => Sys2Proof.Machine.execCmdGenericF5 s
  | .cmdGenericF6 => Sys2Proof.Machine.execCmdGenericF6 s
  | .cmdGenericF7 => Sys2Proof.Machine.execCmdGenericF7 s
  | .cmdGenericF8 => Sys2Proof.Machine.execCmdGenericF8 s
  | .cmdGenericF9 => Sys2Proof.Machine.execCmdGenericF9 s
  | .cmdGenericFA => Sys2Proof.Machine.execCmdGenericFA s
  | .cmdGenericFB => Sys2Proof.Machine.execCmdGenericFB s
  | .cmdGenericFC => Sys2Proof.Machine.execCmdGenericFC s
  | .cmdGenericFD => Sys2Proof.Machine.execCmdGenericFD s
  | .data007F low => Sys2Proof.Machine.execData007F low s
  | .data80BF low => Sys2Proof.Machine.execData80BF low s
  | .dataC0DF low => Sys2Proof.Machine.execDataC0DF low s
  | .dataE0E7 low => Sys2Proof.Machine.execDataE0E7 low s
  | .dataE8EB low => Sys2Proof.Machine.execDataE8EB low s
  | .dataECEC => Sys2Proof.Machine.execDataECEC s
  | .sentinel => Sys2Proof.Machine.execSentinel s
  | .rspAck => Sys2Proof.Machine.execRspAck s
  | .rspResend => Sys2Proof.Machine.execRspResend s
  | .rspSelfTestPass => Sys2Proof.Machine.execRspSelfTestPass s
  | .rspEcho => Sys2Proof.Machine.execRspEcho s
  | .rspId1 => Sys2Proof.Machine.execRspId1 s
  | .rspId2 => Sys2Proof.Machine.execRspId2 s
  | .rspMake => Sys2Proof.Machine.execRspMake s
  | .rspBreakPrefix => Sys2Proof.Machine.execRspBreakPrefix s

end Sys2Proof.Machine
end

