-- ==== Sys2Proof/Machine/Agents.lean ====
section
/-! DEFINITION. What each agent of R6 does in one step: the engine's tick, the port transaction, the foreground that keeps
the contracts of spec/44_link_contracts.md (R304), and reset; and how an entry of the harness script is run. -/
namespace Sys2Proof.Machine

/-- `PORT(req)` (R250): decode and perform one operation. -/
def portStep (req : Req) (s : State) : Outcome := exec (decodePort req) { s with req := req }

/-- `TICK(hclk, hdat)` (R180): the instruction `PH` names, under this step's host drive. -/
def tickStep (hclk hdat : Bool) (s : State) : Outcome := exec (decodePhase s.ph) (s.withHost hclk hdat)

/-- The request word of a port instruction that has no operand (R117). -/
def requestOf (i : Instr) : Req := BitVec.ofNat 16 (encode i)

/-- The handling of a byte taken from `INQ` (R281). A 0xFE that is no sentinel has no rule (R284). -/
def handleByte (b : Byte) (s : State) : Outcome :=
  if b = Config.resendCode ∧ linkClass b = .command then .refused .resendAtInterpreter else exec (classify b) s

/-- What follows `LERR.RD` (R303): the recovery where it returned 1; otherwise the record of key bytes starts anew. -/
def afterLinkError (s : State) : State :=
  if s.resp.result = 1 then s.push (recoverySteps (!s.fg.keys.isEmpty))
  else { s with fg := { s.fg with keys := [] } }

/-- A qualifying event at tick `t` (R302). -/
def debounce (t : Word) (s : State) : State :=
  let fresh := s.fg.count = 0 ∨ (t - s.fg.w0).toNat > Config.windowTicks
  let count := if fresh then 1 else s.fg.count + 1
  let w0 := if fresh then t else s.fg.w0
  if count = 3 then { s with fg := { s.fg with count := 0, w0 := w0 } }.push [.checkInbound]
  else { s with fg := { s.fg with count := count, w0 := w0 } }

/-- One entry of the foreground's to-do list, already taken off it. -/
def foregroundOp (qualifying : Bool) (op : FgOp) (s : State) : Outcome :=
  match op with
  | .request req => portStep req s
  | .respond b =>
    match decodeResponse b with
    | .ok i => exec i { s with req := portWord 0x01 b }
    | .error why => .refused (.undecodable why)
  | .checkLinkError => andThen (portStep (requestOf .lerrRd) s) fun t => .next (afterLinkError t)
  | .takeByte =>
    andThen (portStep (requestOf .inDeq) s) fun t =>
      if t.resp.status = .ok then handleByte (t.resp.result.setWidth 8) t else .next t
  | .pollSource =>
    if qualifying then andThen (portStep (requestOf .ticksRd) s) fun t => .next (debounce t.resp.result t)
    else .next s
  | .checkInbound =>
    andThen (portStep (requestOf .inEmpty) s) fun t =>
      .next (if t.resp.result = 1 then t.push [.checkOutbound] else t)
  | .checkOutbound =>
    andThen (portStep (requestOf .outEmpty) s) fun t =>
      .next (if t.resp.result = 1 then t.push [.respond 0x29, .respond 0xF0] else t)
  | .waitStart =>
    andThen (portStep (requestOf .ticksRd) s) fun t =>
      .next ({ t with fg := { t.fg with waiting := true, t0 := t.resp.result } }.push [.waitTake])
  | .waitTake =>
    andThen (portStep (requestOf .inDeq) s) fun t =>
      if t.resp.status = .ok then handleByte (t.resp.result.setWidth 8) (t.push [.waitTake])
      else .next (t.push [.waitDeadline])
  | .waitDeadline =>
    andThen (portStep (requestOf .ticksRd) s) fun t =>
      .next (if Config.paramWaitTicks ≤ (t.resp.result - t.fg.t0).toNat then t.endWait else t.push [.waitTake])

/-- The next step of the foreground's loop (R304): the first step it has still to take; where there is none, a new pass
begins with `LERR.RD`. -/
def foregroundStep (qualifying : Bool) (s : State) : Outcome :=
  match s.fg.todo with
  | [] => foregroundOp qualifying .checkLinkError (s.push [.takeByte, .pollSource])
  | op :: rest => foregroundOp qualifying op { s with fg := { s.fg with todo := rest } }

/-- One step of one agent (R11). -/
def runEvent (e : Event) (s : State) : Outcome :=
  match e with
  | .tick hclk hdat => tickStep hclk hdat s
  | .port req hclk hdat => portStep req (s.withHost hclk hdat)
  | .reset => .next s.applyReset
  | .foreground qualifying => foregroundStep qualifying s

/-- One entry of the harness script: an agent's step, or a word that is decoded in its space and run. -/
def runItem (i : Item) (s : State) : Outcome :=
  match i with
  | .event e => runEvent e s
  | .word space w =>
    match decode space w with
    | .ok i => exec i s
    | .error why => .refused (.undecodable why)

/-- The step that is due: the script's next entry, or, when it is used up, any step of any agent (log entry 3). -/
def nextItem (s : State) : Item :=
  match s.script with
  | [] => .event (Config.freeEvent s.seq)
  | i :: _ => i

/-- The state with the step that is due taken off the script, or counted. -/
def takeItem (s : State) : State :=
  match s.script with
  | [] => { s with seq := s.seq + 1 }
  | _ :: rest => { s with script := rest }

/-- One step of the machine. -/
def stepItem (s : State) : Outcome := runItem (nextItem s) (takeItem s)

/-- A word of a space stored where the next step fetches it (log entry 5). A phase code is fetched from `PH` and a state
code from `ST` at a HIGH tick (R180, R184), so those words go there and a tick is due; any other word is due itself. -/
def placeWord (space : Space) (w : Nat) (s : State) : State :=
  match space with
  | .phase => { s with ph := BitVec.ofNat 2 w, script := .event (.tick s.hclk s.hdat) :: s.script }
  | .state => { s with ph := 3, st := BitVec.ofNat 4 w, script := .event (.tick s.hclk s.hdat) :: s.script }
  | .port => { s with script := .event (.port (BitVec.ofNat 16 w) s.hclk s.hdat) :: s.script }
  | sp => { s with script := .word sp w :: s.script }

end Sys2Proof.Machine
end

