-- ==== Sys2Proof/Machine/Step.lean ====
section
/-! DEFINITION. The step, and where its next instruction is stored. -/
namespace Sys2Proof.Machine

/-- One step of one agent. -/
def step (s : State) : Host.Outcome State Fault Refusal := stepItem s

/-- The state with an instruction stored where `step` fetches its next one. -/
def State.withFetchWord (s : State) (nbits w : Nat) : State := placeWord (tableSpace nbits w) w s

end Sys2Proof.Machine
end

