-- ==== Sys2Proof/Safety.lean ====
section
/-! DEFINITION. What a safe state is: the invariants of spec/10_state.md R49 and spec/70_reset_and_hazards.md R341, and the
canonical form of the stores. -/
namespace Sys2Proof.Machine

/-- The handler `ST` names is one of these. -/
def State.inStates (s : State) (hs : List Handler) : Prop := ∃ h ∈ hs, s.st = h.code

/-- The seven states of a transfer (R49 item 5). -/
def transferStates : List Handler :=
  [.sendBit, .sendParity, .sendStopBit, .receiveBit, .receiveParity, .receiveAck, .receiveEnd]

/-- R49 item 1: the codes in use, and the bit count. (`COUNT ≤ 9` of both queues holds by the cursors' type.) -/
def State.codesLegal (s : State) : Prop := s.st.toNat ≤ 8 ∧ s.cnt.toNat ≤ 8

/-- R49 item 2: an idle engine has its transient fields at their defaults and the data line released. -/
def State.idleClean (s : State) : Prop :=
  s.st = Handler.idle.code → s.cnt = 0 ∧ s.par = false ∧ s.sh = 0 ∧ s.datOe = false

/-- R49 item 3: the clock is held only between a FALL tick and the next RISE tick, with `GEN = 1`. -/
def State.clockHeldInPulse (s : State) : Prop := s.clkOe = true → (s.ph = 1 ∨ s.ph = 2) ∧ s.gen = true

/-- R49 item 4: the bit count in each transfer state. -/
def State.countInStates (s : State) : Prop :=
  (s.inStates [.sendBit, .receiveBit] → 1 ≤ s.cnt.toNat ∧ s.cnt.toNat ≤ 8) ∧
  (s.inStates [.sendParity, .sendStopBit, .receiveParity, .receiveAck, .receiveEnd] → s.cnt = 0)

/-- R49 item 5: a transfer generates the clock. -/
def State.transferClocks (s : State) : Prop := s.inStates transferStates → s.gen = true

/-- R49 item 6: the data line is held only in the sending states and in ReceiveEnd. -/
def State.dataHeldInStates (s : State) : Prop :=
  s.datOe = true → s.inStates [.sendBit, .sendParity, .sendStopBit, .receiveEnd]

/-- The invariants of R49, item by item. -/
structure State.Legal (s : State) : Prop where
  codes : s.codesLegal
  idle : s.idleClean
  clock : s.clockHeldInPulse
  count : s.countInStates
  transfer : s.transferClocks
  data : s.dataHeldInStates

/-- R341: `PH = TICKS mod 4`. -/
def State.phaseOfTicks (s : State) : Prop := s.ph = s.ticks.setWidth 2

/-- The stores of both queues have the canonical form. -/
def State.storesCanonical (s : State) : Prop := s.outq.slot.wf = true ∧ s.inq.slot.wf = true

/-- No byte of `INQ`'s store is 0xFE, unless that is the sentinel (R194: "A valid 0xFE never reaches `INQ`"). -/
def State.noResendInbound (s : State) : Prop := ∀ i, s.inq.read i = Config.resendCode → Config.rxErrByte = Config.resendCode

/-- An agent's own step, or a word of an external encoding space: the internal micro-operations, the phase and the state
codes come only from the engine (R109, R110). -/
def Item.external : Item → Prop
  | .event _ => True
  | .word space _ => space = .port ∨ space = .frameD2H ∨ space = .frameH2D ∨ space = .link ∨ space = .rxError ∨ space = .response

/-- The script holds nothing that only the engine issues. -/
def State.externalScript (s : State) : Prop := ∀ i ∈ s.script, Item.external i

/-- A run of enqueues (`some b`) and dequeues (`none`) on a queue: the bytes accepted, the bytes returned, and the queue
(R78). -/
def Queue.runOps : List (Option Byte) → Queue → List Byte × List Byte × Queue
  | [], q => ([], [], q)
  | some b :: ops, q =>
    let r := Queue.runOps ops (q.enq b).2
    (if (q.enq b).1 = .ok then b :: r.1 else r.1, r.2)
  | none :: ops, q =>
    let r := Queue.runOps ops q.deq.2.2
    (r.1, if q.deq.1 = .ok then q.deq.2.1 :: r.2.1 else r.2.1, r.2.2)

/-- A run of enqueues (`some b`) and clears (`none`) on a queue (R43, R84). -/
def Queue.fillAndClear (ops : List (Option Byte)) (q : Queue) : Queue :=
  ops.foldl (fun q o => match o with
    | some b => (q.enq b).2
    | none => q.clr) q

end Sys2Proof.Machine
end

