-- ==== Sys2Proof/Certificates/Slice0/Obligations.lean ====
section
/-! DEFINITION. The statements for the provers. Each follows the rules of spec/ that its docstring names. -/

open Sys2Proof Sys2Proof.Machine

/-! ### Encodings -/

/-- R101, R103, R106, R108 to R112, R114, R115: every well-formed instruction is decoded from its own word. The order of a
frame word's bits is the model's choice (log entry 13). -/
def Obligations.DecodeGivesBackEveryEncodedInstruction : Prop :=
  ∀ i : Instr, i.wf = true → decode i.space (encode i) = .ok i

/-- R100, R104, R119: what a word decodes to is well-formed, in the word's space, and has that word as its encoding; in the
port's space the words that differ in an ignored immediate decode alike, so there the operation's byte is the same. -/
def Obligations.DecodedWordsHaveOneMeaning : Prop :=
  ∀ (sp : Space) (w : Nat) (i : Instr), decode sp w = .ok i →
    i.wf = true ∧ i.space = sp ∧ w < 2 ^ sp.width ∧
    (sp ≠ .port → encode i = w) ∧ (sp = .port → encode i / 256 = w / 256)

/-- R116: the port decoder's map from `OP` and `IMM` to the operations. -/
def Obligations.PortDecoderFollowsTheOpMap : Prop :=
  ∀ imm : Byte,
    decodePort (BitVec.ofNat 16 (0x0100 + imm.toNat)) = .outEnq imm ∧
    decodePort (BitVec.ofNat 16 (0x0200 + imm.toNat)) = .outClr ∧
    decodePort (BitVec.ofNat 16 (0x0300 + imm.toNat)) = .outEmpty ∧
    decodePort (BitVec.ofNat 16 (0x0400 + imm.toNat)) = .outFull ∧
    decodePort (BitVec.ofNat 16 (0x0500 + imm.toNat)) = .outPeek ∧
    decodePort (BitVec.ofNat 16 (0x1300 + imm.toNat)) = .inEmpty ∧
    decodePort (BitVec.ofNat 16 (0x1400 + imm.toNat)) = .inFull ∧
    decodePort (BitVec.ofNat 16 (0x1500 + imm.toNat)) = .inPeek ∧
    decodePort (BitVec.ofNat 16 (0x1600 + imm.toNat)) = .inDeq ∧
    decodePort (BitVec.ofNat 16 (0x2000 + imm.toNat)) = .lerrRd ∧
    decodePort (BitVec.ofNat 16 (0x2100 + imm.toNat)) = .lerrClr ∧
    decodePort (BitVec.ofNat 16 (0x3000 + imm.toNat)) = .ticksRd ∧
    decodePort (BitVec.ofNat 16 (0x4000 + imm.toNat)) = .linesRd ∧
    ∀ op : Byte, op ∉ [0x01, 0x02, 0x03, 0x04, 0x05, 0x13, 0x14, 0x15, 0x16, 0x20, 0x21, 0x30, 0x40] →
      decodePort (BitVec.ofNat 16 (op.toNat * 256 + imm.toNat)) = .illegal op

/-- R103, R106, R108 to R112, R114, R115: some words written out from the tables. The order of a frame word's bits is the
model's choice (log entry 13). -/
def Obligations.WrittenOutWordsDecode : Prop :=
  decode .port 0b0000000100101001 = .ok (.outEnq 0x29) ∧
  decode .port 0b0010000100000000 = .ok .lerrClr ∧
  decode .phase 0b10 = .ok .rise ∧
  decode .state 0b0111 = .ok .receiveAck ∧
  decode .line 0b011 = .ok .datRel ∧
  decode .queue 0b1001 = .ok (.qdeq .inq) ∧
  decode .frameD2H 0b10001010010 = .ok (.frameD2H 0x29 false) ∧
  decode .frameH2D 0b011111011010 = .ok (.frameH2D 0xED true) ∧
  decode .link 0b11110010 = .ok .cmdReadId ∧
  decode .response 0b11110000 = .ok .rspBreakPrefix

/-- R107, R109, R110: the reserved codes are no instruction, and a step that meets one is refused. -/
def Obligations.ReservedCodesAreRefused : Prop :=
  (∀ c : BitVec 4, 9 ≤ c.toNat → decode .state c.toNat = .error (.reservedState c)) ∧
  (∀ c : BitVec 3, c = 0b101 ∨ c = 0b111 → decode .line c.toNat = .error (.reservedLine c)) ∧
  (∀ c : BitVec 4, c ∈ [0b0111, 0b1010, 0b1011, 0b1111] → decode .queue c.toNat = .error (.reservedQueue c)) ∧
  ∀ (s : State) (rest : List Item) (sp : Space) (w : Nat) (why : Reject), s.script = .word sp w :: rest →
    decode sp w = .error why → step s = .refused (.undecodable why)

/-! ### The step -/

/-- R11, R180, R250: a step runs the instruction that is due: the one `PH` names at a tick, the one the request word decodes
to at a port transaction, the one a word of the script decodes to; a step of the foreground is the next one of its loop
(R304, log entry 14). With the script used up any agent may step (log entry 3). -/
def Obligations.StepRunsTheInstructionThatIsDue : Prop :=
  (∀ (s : State) (rest : List Item) (c d : Bool), s.script = .event (.tick c d) :: rest →
    step s = exec (decodePhase s.ph) { s with hclk := c, hdat := d, script := rest }) ∧
  (∀ (s : State) (rest : List Item) (req : Req) (c d : Bool), s.script = .event (.port req c d) :: rest →
    step s = exec (decodePort req) { s with hclk := c, hdat := d, req := req, script := rest }) ∧
  (∀ (s : State) (rest : List Item) (sp : Space) (w : Nat) (i : Instr), s.script = .word sp w :: rest →
    decode sp w = .ok i → step s = exec i { s with script := rest }) ∧
  (∀ (s : State) (rest : List Item) (q : Bool), s.script = .event (.foreground q) :: rest →
    step s = foregroundStep q { s with script := rest }) ∧
  ∀ s : State, s.script = [] →
    step s = step { s with script := [.event (Config.freeEvent s.seq)], seq := s.seq + 1 }

/-- R340: the reset step sets every field of the block, from any state; the state a run begins with is the same. -/
def Obligations.ResetSetsEveryField : Prop :=
  ∀ (s : State) (rest : List Item), s.script = .event .reset :: rest → ∃ r, step s = .next r ∧
    ∀ t, t = r ∨ t = State.reset →
    t.st = 0 ∧ t.ph = 0 ∧ t.gen = false ∧ t.cnt = 0 ∧ t.par = false ∧ t.sh = 0x00 ∧ t.lerr = false ∧
    t.clkOe = false ∧ t.datOe = false ∧ t.ticks = 0 ∧
    t.outq.rd = 0 ∧ t.outq.wr = 0 ∧ (∀ i, t.outq.read i = 0x00) ∧
    t.inq.rd = 0 ∧ t.inq.wr = 0 ∧ (∀ i, t.inq.read i = 0x00)

/-! ### The port -/

/-- R251: `OUT.ENQ`. -/
def Obligations.OutEnqAppendsOrReportsFull : Prop :=
  ∀ (s : State) (imm : Byte),
    ((s.outq.wr - s.outq.rd).val ≠ 9 → exec (.outEnq imm) s = .next { s with
      outq := { s.outq with slot := Memory.write s.outq.slot s.outq.wr.val imm, wr := s.outq.wr + 1 }
      resp := { status := .ok, result := 0 } }) ∧
    ((s.outq.wr - s.outq.rd).val = 9 → exec (.outEnq imm) s = .next { s with
      resp := { status := .full, result := 0 } })

/-- R252: `OUT.CLR`. -/
def Obligations.OutClrMovesTheWriteCursorBack : Prop :=
  ∀ s : State, exec .outClr s = .next { s with
    outq := { s.outq with wr := s.outq.rd }, resp := { status := .ok, result := 0 } }

/-- R253, R254, R256, R257: the emptiness and fullness tests. -/
def Obligations.QueueTestsAnswer : Prop :=
  ∀ s : State,
    exec .outEmpty s = .next { s with
      resp := { status := .ok, result := if s.outq.rd = s.outq.wr then 1 else 0 } } ∧
    exec .outFull s = .next { s with
      resp := { status := .ok, result := if (s.outq.wr - s.outq.rd).val = 9 then 1 else 0 } } ∧
    exec .inEmpty s = .next { s with
      resp := { status := .ok, result := if s.inq.rd = s.inq.wr then 1 else 0 } } ∧
    exec .inFull s = .next { s with
      resp := { status := .ok, result := if (s.inq.wr - s.inq.rd).val = 9 then 1 else 0 } }

/-- R255, R258: the peeks. -/
def Obligations.PeeksAnswerTheFront : Prop :=
  ∀ s : State,
    (s.outq.rd ≠ s.outq.wr → exec .outPeek s = .next { s with
      resp := { status := .ok, result := BitVec.ofNat 32 (s.outq.read s.outq.rd).toNat } }) ∧
    (s.outq.rd = s.outq.wr → exec .outPeek s = .next { s with resp := { status := .empty, result := 0 } }) ∧
    (s.inq.rd ≠ s.inq.wr → exec .inPeek s = .next { s with
      resp := { status := .ok, result := BitVec.ofNat 32 (s.inq.read s.inq.rd).toNat } }) ∧
    (s.inq.rd = s.inq.wr → exec .inPeek s = .next { s with resp := { status := .empty, result := 0 } })

/-- R259: `IN.DEQ`. -/
def Obligations.InDeqTakesTheFront : Prop :=
  ∀ s : State,
    (s.inq.rd ≠ s.inq.wr → exec .inDeq s = .next { s with
      inq := { s.inq with rd := s.inq.rd + 1 }
      resp := { status := .ok, result := BitVec.ofNat 32 (s.inq.read s.inq.rd).toNat } }) ∧
    (s.inq.rd = s.inq.wr → exec .inDeq s = .next { s with resp := { status := .empty, result := 0 } })

/-- R260, R261: the Link Error Flag is read, and cleared. -/
def Obligations.LinkErrorFlagIsReadAndCleared : Prop :=
  ∀ s : State,
    exec .lerrRd s = .next { s with resp := { status := .ok, result := if s.lerr then 1 else 0 } } ∧
    exec .lerrClr s = .next { s with lerr := false, resp := { status := .ok, result := 0 } }

/-- R262, R263: the tick counter and the line levels are read. -/
def Obligations.TicksAndLinesAreRead : Prop :=
  ∀ s : State,
    exec .ticksRd s = .next { s with resp := { status := .ok, result := s.ticks } } ∧
    ∃ r : Word, exec .linesRd s = .next { s with resp := { status := .ok, result := r } } ∧
      r.toNat = (if s.clkOe = false ∧ s.hclk = true then 1 else 0) + (if s.datOe = false ∧ s.hdat = true then 2 else 0)

/-- R264: every other request word. -/
def Obligations.IllegalRequestsChangeNothing : Prop :=
  ∀ (s : State) (op imm : Byte), op ∉ [0x01, 0x02, 0x03, 0x04, 0x05, 0x13, 0x14, 0x15, 0x16, 0x20, 0x21, 0x30, 0x40] →
    exec (decodePort (BitVec.ofNat 16 (op.toNat * 256 + imm.toNat))) s =
      .next { s with resp := { status := .illegal, result := 0 } } ∧
    exec (.illegal op) s = .next { s with resp := { status := .illegal, result := 0 } }

/-- R44, R75, R81, R250: a port transaction always completes, and writes no field the engine owns: of the block only
`OUTQ.WR`, `OUTQ.SLOT` (`OUT.ENQ`, `OUT.CLR`), `INQ.RD` (`IN.DEQ`) and `LERR` (to 0, `LERR.CLR`). -/
def Obligations.PortTransactionsKeepToTheirFields : Prop :=
  ∀ (s : State) (rest : List Item) (req : Req) (c d : Bool), s.script = .event (.port req c d) :: rest →
    ∃ t, step s = .next t ∧
      t.st = s.st ∧ t.ph = s.ph ∧ t.gen = s.gen ∧ t.cnt = s.cnt ∧ t.par = s.par ∧ t.sh = s.sh ∧
      t.clkOe = s.clkOe ∧ t.datOe = s.datOe ∧ t.ticks = s.ticks ∧
      t.outq.rd = s.outq.rd ∧ t.inq.wr = s.inq.wr ∧ t.inq.slot = s.inq.slot ∧
      t.fg = s.fg ∧ t.wire = s.wire ∧ t.script = rest ∧ t.seq = s.seq ∧
      (t.lerr = s.lerr ∨ t.lerr = false ∧ req.toNat / 256 = 0x21) ∧
      (req.toNat / 256 ≠ 0x01 → req.toNat / 256 ≠ 0x02 → t.outq = s.outq) ∧
      (req.toNat / 256 ≠ 0x01 → t.outq.slot = s.outq.slot) ∧
      (req.toNat / 256 ≠ 0x16 → t.inq = s.inq)

/-- R47: what the port answers does not depend on `PH`, `ST`, `GEN`, `CNT`, `PAR`, `SH` or the drives, beyond the line
levels. -/
def Obligations.PortAnswersHideTheEngine : Prop :=
  ∀ (s s' t t' : State) (req : Req), s.lerr = s'.lerr → s.ticks = s'.ticks → s.outq = s'.outq → s.inq = s'.inq →
    (!s.clkOe && s.hclk) = (!s'.clkOe && s'.hclk) → (!s.datOe && s.hdat) = (!s'.datOe && s'.hdat) →
    exec (decodePort req) s = .next t → exec (decodePort req) s' = .next t' → t.resp = t'.resp

/-! ### The tick -/

/-- R181, R182, R183: the actions of the three phases without a handler, with the advance of R180. That a phase's meaning
includes the advance is the model's reading (log entry 12). -/
def Obligations.PhasesDriveTheClock : Prop :=
  ∀ s : State,
    exec .fall s = .next { s with clkOe := s.clkOe || s.gen, ph := s.ph + 1, ticks := s.ticks + 1 } ∧
    exec .low s = .next { s with ph := s.ph + 1, ticks := s.ticks + 1 } ∧
    exec .rise s = .next { s with clkOe := s.clkOe && !s.gen, ph := s.ph + 1, ticks := s.ticks + 1 }

/-- R184, R107: a HIGH tick runs the handler `ST` names, then `PH` and `TICKS` advance; a reserved code is refused. That
HIGH includes the advance and a handler does not is the model's reading (log entry 12). -/
def Obligations.HighRunsTheHandlerOfST : Prop :=
  (∀ (h : Handler) (s : State), s.st = h.code → ∃ t, exec h.instr s = .next t ∧
    exec .high s = .next { t with ph := t.ph + 1, ticks := t.ticks + 1 }) ∧
  (∀ s : State, s.st.toNat ≤ 8 → ∃ t, exec .high s = .next t) ∧
  ∀ s : State, 9 ≤ s.st.toNat → exec .high s = .refused (.reservedState s.st)

/-- R180: every tick advances `PH` modulo 4 and `TICKS` modulo 2^32. -/
def Obligations.EveryTickAdvancesPhaseAndCounter : Prop :=
  ∀ (s t : State) (c d : Bool), exec (decodePhase s.ph) { s with hclk := c, hdat := d } = .next t →
    t.ph.toNat = (s.ph.toNat + 1) % 4 ∧ t.ticks.toNat = (s.ticks.toNat + 1) % 2 ^ 32

/-- R186, R187: the Idle decision. `CLK_OE` is released first, so `CLK()` is the host's drive. -/
def Obligations.IdleDecidesAsTheRuleSays : Prop :=
  ∀ s : State,
    (s.hclk = false → exec .idle s = .next { s with
      st := 1, cnt := 0, par := false, sh := 0x00, gen := false, clkOe := false }) ∧
    (s.hclk = true → s.datOe = false → s.hdat = true → s.outq.rd ≠ s.outq.wr → s.lerr = false →
      exec .idle s = .next { s with
        st := 2, cnt := 8, par := false, sh := s.outq.read s.outq.rd, gen := true, clkOe := false, datOe := true
        outq := { s.outq with rd := s.outq.rd + 1 } }) ∧
    (s.hclk = true → s.datOe = true ∨ s.hdat = false ∨ s.outq.rd = s.outq.wr ∨ s.lerr = true →
      exec .idle s = .next { s with st := 0, cnt := 0, par := false, sh := 0x00, gen := false, clkOe := false })

/-- R188: Inhibited. -/
def Obligations.InhibitedWaitsForTheClock : Prop :=
  ∀ s : State,
    (s.clkOe = true ∨ s.hclk = false → exec .inhibited s = .next s) ∧
    (s.clkOe = false → s.hclk = true → s.datOe = false → s.hdat = true →
      exec .inhibited s = .next { s with st := 0, cnt := 0, par := false, sh := 0x00 }) ∧
    (s.clkOe = false → s.hclk = true → s.datOe = true ∨ s.hdat = false →
      exec .inhibited s = .next { s with st := 5, cnt := 8, par := false, gen := true })

/-- R189: SendBit: the takeover, or one bit. Where `CNT = 0` its next value is free (log entry 4). -/
def Obligations.SendBitShiftsOrYields : Prop :=
  ∀ s : State,
    (s.clkOe = true ∨ s.hclk = false → exec .sendBit s = .next { s with datOe := false, lerr := true, st := 1 }) ∧
    (s.clkOe = false → s.hclk = true → ∃ n : BitVec 4, (s.cnt ≠ 0 → n.toNat + 1 = s.cnt.toNat) ∧
      exec .sendBit s = .next { s with
        datOe := !s.sh.getLsbD 0, par := s.par ^^ s.sh.getLsbD 0, sh := s.sh >>> 1, cnt := n
        st := if n = 0 then 3 else s.st })

/-- R190, R191: SendParity and SendStopBit. -/
def Obligations.SendParityAndStopBit : Prop :=
  ∀ s : State,
    (s.clkOe = true ∨ s.hclk = false → exec .sendParity s = .next { s with datOe := false, lerr := true, st := 1 }) ∧
    (s.clkOe = false → s.hclk = true → exec .sendParity s = .next { s with datOe := s.par, st := 4 }) ∧
    exec .sendStopBit s = .next { s with datOe := false, st := 0, cnt := 0, par := false, sh := 0x00 }

/-- R192, R193: ReceiveBit and ReceiveParity. Where `CNT = 0` its next value is free (log entry 4). -/
def Obligations.ReceiveBitAndParity : Prop :=
  ∀ (s : State) (b : Bool), b = (!s.datOe && s.hdat) →
    (∃ (n : BitVec 4) (v : Byte), (s.cnt ≠ 0 → n.toNat + 1 = s.cnt.toNat) ∧
      v.toNat = (if b then 128 else 0) + s.sh.toNat / 2 ∧
      exec .receiveBit s = .next { s with sh := v, par := s.par ^^ b, cnt := n, st := if n = 0 then 6 else s.st }) ∧
    exec .receiveParity s = .next { s with par := s.par ^^ b, st := 7 }

/-- R194: ReceiveAck: the wait, the Resend, the byte, the sentinel; a full queue drops it, and the ACK is still driven. -/
def Obligations.ReceiveAckDelivers : Prop :=
  ∀ s : State,
    (s.datOe = true ∨ s.hdat = false → exec .receiveAck s = .next s) ∧
    (s.datOe = false → s.hdat = true →
      (s.par = true → s.sh = 0xFE → (s.outq.wr - s.outq.rd).val ≠ 9 → exec .receiveAck s = .next { s with
        datOe := true, st := 8, outq := { s.outq with rd := s.outq.rd - 1 } }) ∧
      (s.par = true → s.sh = 0xFE → (s.outq.wr - s.outq.rd).val = 9 → exec .receiveAck s = .next { s with
        datOe := true, st := 8 }) ∧
      (s.par = true → s.sh ≠ 0xFE → (s.inq.wr - s.inq.rd).val ≠ 9 → exec .receiveAck s = .next { s with
        datOe := true, st := 8
        inq := { s.inq with slot := Memory.write s.inq.slot s.inq.wr.val s.sh, wr := s.inq.wr + 1 } }) ∧
      (s.par = true → s.sh ≠ 0xFE → (s.inq.wr - s.inq.rd).val = 9 → exec .receiveAck s = .next { s with
        datOe := true, st := 8 }) ∧
      (s.par = false → (s.inq.wr - s.inq.rd).val ≠ 9 → exec .receiveAck s = .next { s with
        datOe := true, st := 8
        inq := { s.inq with slot := Memory.write s.inq.slot s.inq.wr.val Config.rxErrByte, wr := s.inq.wr + 1 } }) ∧
      (s.par = false → (s.inq.wr - s.inq.rd).val = 9 → exec .receiveAck s = .next { s with
        datOe := true, st := 8 }))

/-- R195: ReceiveEnd releases data, then decides as Idle does, in the same tick. -/
def Obligations.ReceiveEndDecidesAtOnce : Prop :=
  ∀ s : State, exec .receiveEnd s = exec .idle { s with datOe := false } ∧ ∃ t, exec .receiveEnd s = .next t

/-- R196: the next-state function of a HIGH tick, under any host drive; at every other tick `ST` stays. `k` is `CLK()` as
the send states and Inhibited read it; the Idle decision reads the clock after its release, so it sees the host's drive. -/
def Obligations.EngineFollowsTheNextStateTable : Prop :=
  ∀ (s t : State) (c d k : Bool), k = (!s.clkOe && c) →
    exec (decodePhase s.ph) { s with hclk := c, hdat := d } = .next t →
    (s.ph ≠ 3 → t.st = s.st) ∧
    (s.ph = 3 →
      (s.st = 0 → t.st = if c = false then 1
        else if s.datOe = false ∧ d = true ∧ s.outq.rd ≠ s.outq.wr ∧ s.lerr = false then 2 else 0) ∧
      (s.st = 1 → t.st = if k = false then 1 else if s.datOe = false ∧ d = true then 0 else 5) ∧
      (s.st = 2 → t.st = (if k = false then 1 else if t.cnt = 0 then 3 else 2) ∧ (k = false → t.lerr = true)) ∧
      (s.st = 3 → t.st = (if k = false then 1 else 4) ∧ (k = false → t.lerr = true)) ∧
      (s.st = 4 → t.st = 0) ∧
      (s.st = 5 → t.st = if t.cnt = 0 then 6 else 5) ∧
      (s.st = 6 → t.st = 7) ∧
      (s.st = 7 → t.st = if s.datOe = false ∧ d = true then 8 else 7) ∧
      (s.st = 8 → t.st = if c = false then 1
        else if d = true ∧ s.outq.rd ≠ s.outq.wr ∧ s.lerr = false then 2 else 0))

/-- R353, R184: the lines matter only at a HIGH tick. -/
def Obligations.LinesMatterOnlyAtHighTicks : Prop :=
  ∀ (s : State) (c d c' d' : Bool), s.ph ≠ 3 → ∃ t : State,
    exec (decodePhase s.ph) { s with hclk := c, hdat := d } = .next { t with hclk := c, hdat := d } ∧
    exec (decodePhase s.ph) { s with hclk := c', hdat := d' } = .next { t with hclk := c', hdat := d' }

/-- R44: a tick writes no field the foreground owns: not `OUTQ.WR`, `OUTQ.SLOT` or `INQ.RD`, and it never clears `LERR`. -/
def Obligations.TicksKeepToTheirFields : Prop :=
  ∀ (s t : State) (rest : List Item) (c d : Bool), s.script = .event (.tick c d) :: rest → step s = .next t →
    t.outq.wr = s.outq.wr ∧ t.outq.slot = s.outq.slot ∧ t.inq.rd = s.inq.rd ∧ (s.lerr = true → t.lerr = true) ∧
    t.fg = s.fg ∧ t.req = s.req ∧ t.resp = s.resp ∧ t.wire = s.wire ∧ t.seq = s.seq ∧ t.script = rest ∧
    t.hclk = c ∧ t.hdat = d

/-- R351: while `LERR = 1` no tick starts a send. -/
def Obligations.LinkErrorBlocksEverySend : Prop :=
  ∀ (s t : State) (c d : Bool), s.lerr = true → s.st ≠ 2 →
    exec (decodePhase s.ph) { s with hclk := c, hdat := d } = .next t → t.st ≠ 2 ∧ t.lerr = true

/-- R316, R37: a tick sets `LERR` only in SendBit and SendParity, at a HIGH tick that finds the clock low. -/
def Obligations.OnlyATakeoverSetsLinkError : Prop :=
  ∀ (s t : State) (c d : Bool), s.lerr = false → exec (decodePhase s.ph) { s with hclk := c, hdat := d } = .next t →
    t.lerr = true → s.ph = 3 ∧ (s.st = 2 ∨ s.st = 3) ∧ (s.clkOe = true ∨ c = false) ∧ t.st = 1 ∧ t.datOe = false

/-! ### The lines and the queues -/

/-- R231 to R236: the line micro-operations. A read's result as a response is the model's choice (log entry 17). -/
def Obligations.LineMicroOperationsAct : Prop :=
  ∀ s : State,
    exec .clkHold s = .next { s with clkOe := true } ∧
    exec .clkRel s = .next { s with clkOe := false } ∧
    exec .datHold s = .next { s with datOe := true } ∧
    exec .datRel s = .next { s with datOe := false } ∧
    exec .clkRd s = .next { s with
      resp := { status := .ok, result := if s.clkOe = false ∧ s.hclk = true then 1 else 0 } } ∧
    exec .datRd s = .next { s with
      resp := { status := .ok, result := if s.datOe = false ∧ s.hdat = true then 1 else 0 } }

/-- R237: a held line reads low, a released line reads the host's drive, and the lines are independent. -/
def Obligations.LineLevelsAreWiredAnd : Prop :=
  ∀ (s : State) (x : Bool),
    (s.clkOe = true → s.clk = false) ∧ (s.clkOe = false → s.clk = s.hclk) ∧
    (s.datOe = true → s.dat = false) ∧ (s.datOe = false → s.dat = s.hdat) ∧
    ({ s with datOe := x } : State).clk = s.clk ∧ ({ s with clkOe := x } : State).dat = s.dat ∧
    (∃ t : State, exec .clkRd s = .next t ∧ t = { s with resp := t.resp }) ∧
    (∃ t : State, exec .datRd s = .next t ∧ t = { s with resp := t.resp }) ∧
    ∃ t : State, exec .linesRd s = .next t ∧ t = { s with resp := t.resp }

/-- R151: an enqueue, slot by slot. The canonical form of the store is the model's (log entry 11). -/
def Obligations.EnqueueWritesOneSlot : Prop :=
  ∀ (q : Queue) (b : Byte), q.slot.wf = true →
    ((q.wr - q.rd).val = 9 → q.enq b = (.full, q)) ∧
    ((q.wr - q.rd).val ≠ 9 → (q.enq b).1 = .ok ∧ (q.enq b).2.rd = q.rd ∧ (q.enq b).2.wr = q.wr + 1 ∧
      (q.enq b).2.read q.wr = b ∧ ∀ i, i ≠ q.wr → (q.enq b).2.read i = q.read i)

/-- R151 to R154 with R110: the queue micro-operations that write, on `OUTQ` and `INQ`; nobody unqueues or clears `INQ`, so
the model refuses that (R158, treatment U9). The byte at the input of a `QENQ` and the result as a response are the model's
choices (log entries 7, 17). -/
def Obligations.QueueMicroOperationsAct : Prop :=
  ∀ (s : State) (b : Byte),
    (b = s.req.setWidth 8 → exec (.qenq .outq) s = .next { s with
      outq := (s.outq.enq b).2, resp := { status := (s.outq.enq b).1, result := 0 } }) ∧
    (b = s.sh → exec (.qenq .inq) s = .next { s with
      inq := (s.inq.enq b).2, resp := { status := (s.inq.enq b).1, result := 0 } }) ∧
    (s.outq.rd ≠ s.outq.wr → exec (.qdeq .outq) s = .next { s with
      outq := { s.outq with rd := s.outq.rd + 1 }
      resp := { status := .ok, result := BitVec.ofNat 32 (s.outq.read s.outq.rd).toNat } }) ∧
    (s.outq.rd = s.outq.wr → exec (.qdeq .outq) s = .next { s with resp := { status := .empty, result := 0 } }) ∧
    (s.inq.rd ≠ s.inq.wr → exec (.qdeq .inq) s = .next { s with
      inq := { s.inq with rd := s.inq.rd + 1 }
      resp := { status := .ok, result := BitVec.ofNat 32 (s.inq.read s.inq.rd).toNat } }) ∧
    (s.inq.rd = s.inq.wr → exec (.qdeq .inq) s = .next { s with resp := { status := .empty, result := 0 } }) ∧
    ((s.outq.wr - s.outq.rd).val ≠ 9 → exec (.qunq .outq) s = .next { s with
      outq := { s.outq with rd := s.outq.rd - 1 }, resp := { status := .ok, result := 0 } }) ∧
    ((s.outq.wr - s.outq.rd).val = 9 → exec (.qunq .outq) s = .next { s with
      resp := { status := .full, result := 0 } }) ∧
    exec (.qclr .outq) s = .next { s with
      outq := { s.outq with wr := s.outq.rd }, resp := { status := .ok, result := 0 } } ∧
    exec (.qunq .inq) s = .refused (.nobodyIssues .inq) ∧ exec (.qclr .inq) s = .refused (.nobodyIssues .inq)

/-- R155 to R157: the queue micro-operations that only read. The result as a response is the model's choice (log entry
17). -/
def Obligations.QueueMicroReadsAnswer : Prop :=
  ∀ (s : State) (qs : QSel) (q : Queue), q = (match qs with
      | .outq => s.outq
      | .inq => s.inq) →
    exec (.qempty qs) s = .next { s with resp := { status := .ok, result := if q.rd = q.wr then 1 else 0 } } ∧
    exec (.qfull qs) s = .next { s with
      resp := { status := .ok, result := if (q.wr - q.rd).val = 9 then 1 else 0 } } ∧
    (q.rd ≠ q.wr → exec (.qpeek qs) s = .next { s with
      resp := { status := .ok, result := BitVec.ofNat 32 (q.read q.rd).toNat } }) ∧
    (q.rd = q.wr → exec (.qpeek qs) s = .next { s with resp := { status := .empty, result := 0 } })

/-- R159 item 3: a dequeue and then an unqueue leave the queue as it was. -/
def Obligations.UnqueueAfterDequeueRestores : Prop :=
  ∀ q : Queue, q.rd ≠ q.wr → q.deq.2.2.unq = (.ok, q)

/-- R43, R84: the byte dequeued last survives every enqueue and clear, and an unqueue makes it the front again. -/
def Obligations.ResendFindsTheLastByte : Prop :=
  ∀ (q : Queue) (ops : List (Option Byte)), q.rd ≠ q.wr →
    (Queue.fillAndClear ops q.deq.2.2).count ≠ 9 →
    (Queue.fillAndClear ops q.deq.2.2).unq.2.peek = (.ok, q.read q.rd)

/-- R78: the bytes returned are the bytes accepted, in the same order, whatever the mix of enqueues and dequeues. The
canonical form of the store is the model's (log entry 11). -/
def Obligations.QueuesAreFifo : Prop :=
  ∀ (ops : List (Option Byte)) (q : Queue), q.slot.wf = true →
    q.contents ++ (Queue.runOps ops q).1 = (Queue.runOps ops q).2.1 ++ (Queue.runOps ops q).2.2.contents

/-- R9, R71: of the instructions that store, each writes the one slot at the write cursor of its queue; every other slot of
both queues reads as before. -/
def Obligations.StoresTouchOneSlot : Prop :=
  ∀ (s t : State) (i : Instr) (k : Cursor), exec i s = .next t →
    (i ∈ [.qenq .outq, .rspAck, .rspResend, .rspSelfTestPass, .rspEcho, .rspId1, .rspId2, .rspMake, .rspBreakPrefix] ∨
      (∃ b, i = .outEnq b) →
      (k ≠ s.outq.wr → t.outq.read k = s.outq.read k) ∧ t.inq = s.inq ∧ t.outq.rd = s.outq.rd) ∧
    (i ∈ [.qenq .inq, .receiveAck] →
      (k ≠ s.inq.wr → t.inq.read k = s.inq.read k) ∧ t.outq.read k = s.outq.read k ∧ t.inq.rd = s.inq.rd)

/-- R9, R44, R71, R76 say which steps write the queues: no other instruction writes a slot, the HIGH tick and the frames
apart, which run ReceiveAck. Those write no slot of `OUTQ`, nor `OUTQ.WR` or `INQ.RD`, and a HIGH tick writes no slot of
`INQ` but the one at `INQ.WR`. That a frame writes nothing of the foreground's rests on the model's choice of a frame as a
run of ticks with no port step in it (log entry 8), and that a command or the sentinel writes no slot rests on the reply
being steps still to take (log entry 15). -/
def Obligations.OtherInstructionsStoreNothing : Prop :=
  ∀ (s t : State) (i : Instr), exec i s = .next t →
    (i ∉ [.qenq .outq, .qenq .inq, .rspAck, .rspResend, .rspSelfTestPass, .rspEcho, .rspId1, .rspId2, .rspMake,
      .rspBreakPrefix, .receiveAck, .high] → (∀ b, i ≠ .outEnq b) → (∀ b p, i ≠ .frameD2H b p) →
      (∀ b p, i ≠ .frameH2D b p) → ∀ k, t.outq.read k = s.outq.read k ∧ t.inq.read k = s.inq.read k) ∧
    (i = .high ∨ (∃ b p, i = .frameD2H b p) ∨ (∃ b p, i = .frameH2D b p) →
      t.outq.slot = s.outq.slot ∧ t.outq.wr = s.outq.wr ∧ t.inq.rd = s.inq.rd) ∧
    (i = .high → ∀ k, k ≠ s.inq.wr → t.inq.read k = s.inq.read k)

/-! ### The frames -/

/-- R111, R186, R199: from a quiet engine with a byte at `OUTQ`'s front and the host off the lines, the wire carries the
byte's frame; then the engine is quiet again, or, with another byte queued, has started on that one. That a frame is one
run of ticks is the model's choice (log entry 8). -/
def Obligations.SendPutsTheFrameOnTheWire : Prop :=
  ∀ (s : State) (b : Byte) (p : Bool), p = (popcount b % 2 == 0) → s.st = 0 → s.gen = false → s.clkOe = false →
    s.datOe = false → s.lerr = false → s.hclk = true → s.hdat = true → s.outq.rd ≠ s.outq.wr →
    s.outq.read s.outq.rd = b → ∃ t, exec (.frameD2H b p) s = .next t ∧
      t.wire = [false, b.getLsbD 0, b.getLsbD 1, b.getLsbD 2, b.getLsbD 3, b.getLsbD 4, b.getLsbD 5, b.getLsbD 6,
        b.getLsbD 7, p, true] ∧
      t.resp = { status := .ok, result := 1 } ∧ t.ph = 0 ∧
      t.ticks = s.ticks + BitVec.ofNat 32 (48 - s.ph.toNat) ∧ t.lerr = false ∧ t.inq = s.inq ∧
      t.outq.slot = s.outq.slot ∧ t.outq.wr = s.outq.wr ∧ t.clkOe = false ∧ t.par = false ∧ t.fg = s.fg ∧
      (s.outq.rd + 1 = s.outq.wr → t.st = 0 ∧ t.gen = false ∧ t.datOe = false ∧ t.cnt = 0 ∧ t.sh = 0x00 ∧
        t.outq = { s.outq with rd := s.outq.rd + 1 }) ∧
      (s.outq.rd + 1 ≠ s.outq.wr → t.st = 2 ∧ t.gen = true ∧ t.datOe = true ∧ t.cnt = 8 ∧
        t.sh = s.outq.read (s.outq.rd + 1) ∧ t.outq = { s.outq with rd := s.outq.rd + 2 })

/-- R112, R194, R195, R199: from a quiet engine, a host's frame is clocked and acknowledged, and what it brings enters
`INQ` where there is room: the byte, the sentinel for a wrong parity; a valid Resend puts `OUTQ`'s last byte back instead.
After it the engine is quiet, or has started to send what `OUTQ` then holds at its front. That a frame is one run of ticks
is the model's choice (log entry 8). -/
def Obligations.ReceiveDeliversTheFrame : Prop :=
  ∀ (s : State) (b : Byte) (p : Bool), s.st = 0 → s.gen = false → s.clkOe = false → s.datOe = false →
    let valid : Prop := (popcount b + p.toNat) % 2 = 1
    let q : Queue := if valid ∧ b = 0xFE then s.outq.unq.2 else s.outq
    ∃ t, exec (.frameH2D b p) s = .next t ∧
      t.wire = [false, b.getLsbD 0, b.getLsbD 1, b.getLsbD 2, b.getLsbD 3, b.getLsbD 4, b.getLsbD 5, b.getLsbD 6,
        b.getLsbD 7, p, false] ∧
      t.resp = { status := .ok, result := 1 } ∧ t.ph = 0 ∧ t.lerr = s.lerr ∧
      t.ticks = s.ticks + BitVec.ofNat 32 (56 - s.ph.toNat) ∧
      (valid → b ≠ 0xFE → t.inq = (s.inq.enq b).2) ∧ (valid → b = 0xFE → t.inq = s.inq) ∧
      (¬ valid → t.inq = (s.inq.enq Config.rxErrByte).2) ∧
      t.outq.slot = s.outq.slot ∧ t.outq.wr = s.outq.wr ∧ t.clkOe = false ∧ t.par = false ∧ t.fg = s.fg ∧
      (q.rd = q.wr ∨ s.lerr = true →
        t.st = 0 ∧ t.gen = false ∧ t.datOe = false ∧ t.cnt = 0 ∧ t.sh = 0x00 ∧ t.outq = q) ∧
      (q.rd ≠ q.wr → s.lerr = false →
        t.st = 2 ∧ t.gen = true ∧ t.datOe = true ∧ t.cnt = 8 ∧ t.sh = q.read q.rd ∧ t.outq = { q with rd := q.rd + 1 })

/-- R49, R197: in every legal state the frames, as every tick, complete, and the state after is legal. The frames as runs
of ticks are the model's choice (log entry 8). -/
def Obligations.FramesCompleteInLegalStates : Prop :=
  ∀ (s : State) (b : Byte) (p : Bool), s.Legal →
    (∃ t, exec (.frameD2H b p) s = .next t ∧ t.Legal) ∧ ∃ t, exec (.frameH2D b p) s = .next t ∧ t.Legal

/-! ### Invariants -/

/-- R49, R341, R305: the invariants at reset, and the foreground's variables, each 0 or empty. The canonical form of the
stores is the model's (log entry 11), and so are the reset values of the inputs, the outputs and the script (log entry 6);
that the reset step resets the foreground too, and keeps the inputs, the outputs, the script and the counter, is the model's
choice (log entry 9). -/
def Obligations.ResetIsLegal : Prop :=
  State.reset.Legal ∧ State.reset.phaseOfTicks ∧ State.reset.storesCanonical ∧ State.reset.noResendInbound ∧
  State.reset.externalScript ∧
  State.reset.fg = { todo := [], waiting := false, t0 := 0, count := 0, w0 := 0, keys := [] } ∧
  ∀ (s : State) (rest : List Item), s.script = .event .reset :: rest → step s = .next { State.reset with
    fg := { todo := [], waiting := false, t0 := 0, count := 0, w0 := 0, keys := [] }
    hclk := s.hclk, hdat := s.hdat, req := s.req, resp := s.resp, wire := s.wire, script := rest, seq := s.seq }

/-- R49, R341: every step of every agent keeps the six invariants, and `PH = TICKS mod 4`. The steps of the foreground and
the frames are the model's (log entries 8, 14). -/
def Obligations.EveryStepKeepsTheInvariants : Prop :=
  ∀ s t : State, s.externalScript → step s = .next t →
    t.externalScript ∧ (s.Legal → t.Legal) ∧ (s.phaseOfTicks → t.phaseOfTicks)

/-- R41: every step keeps the stores' canonical form (the model's, log entry 11). -/
def Obligations.EveryStepKeepsStoresCanonical : Prop :=
  ∀ s t : State, s.storesCanonical → step s = .next t → t.storesCanonical

/-- R194, R113: no step lets a 0xFE into `INQ`, unless it is the sentinel. The canonical form of the stores is the model's
(log entry 11). -/
def Obligations.NoStepLetsAResendInbound : Prop :=
  ∀ s t : State, s.storesCanonical → s.noResendInbound → s.externalScript → step s = .next t → t.noResendInbound

/-! ### The foreground -/

/-- R282, R283, R285, R288, R289: the commands with a plain reply. The reply's steps become the foreground's next steps,
and a parameter wait ends (R292). That a reply is steps still to be taken is the model's reading (log entry 15). -/
def Obligations.CommandsQueueTheirReplies : Prop :=
  ∀ s : State,
    let after (bytes : List Byte) : State := { s with fg := { s.fg with
      waiting := false
      todo := .request 0x0200 :: (bytes.map .respond ++
        s.fg.todo.filter fun o => o ≠ .waitStart ∧ o ≠ .waitTake ∧ o ≠ .waitDeadline) } }
    exec .cmdReset s = .next (after [0xFA, 0xAA]) ∧
    exec .cmdReadId s = .next (after [0xAB, 0x83]) ∧
    exec .cmdEcho s = .next (after [0xEE]) ∧
    exec .cmdGenericEF s = .next (after [0xFA]) ∧ exec .cmdGenericF0 s = .next (after [0xFA]) ∧
    exec .cmdGenericF1 s = .next (after [0xFA]) ∧ exec .cmdGenericF4 s = .next (after [0xFA]) ∧
    exec .cmdGenericF5 s = .next (after [0xFA]) ∧ exec .cmdGenericF6 s = .next (after [0xFA]) ∧
    exec .cmdGenericF7 s = .next (after [0xFA]) ∧ exec .cmdGenericF8 s = .next (after [0xFA]) ∧
    exec .cmdGenericF9 s = .next (after [0xFA]) ∧ exec .cmdGenericFA s = .next (after [0xFA]) ∧
    exec .cmdGenericFB s = .next (after [0xFA]) ∧ exec .cmdGenericFC s = .next (after [0xFA]) ∧
    exec .cmdGenericFD s = .next (after [0xFA])

/-- R286, R287, R284: the commands with a parameter, and the Resend, which is the engine's `QUNQ(OUTQ)`. That a reply is
steps still to be taken is the model's reading (log entry 15); so is CMD.RESEND as the engine's own (log entry 16). -/
def Obligations.ParameterCommandsAndResend : Prop :=
  ∀ s : State,
    let after : State := { s with fg := { s.fg with
      waiting := false
      todo := .request 0x0200 :: .respond 0xFA :: .waitStart ::
        s.fg.todo.filter fun o => o ≠ .waitStart ∧ o ≠ .waitTake ∧ o ≠ .waitDeadline } }
    exec .cmdSetTypematic s = .next after ∧ exec .cmdSetLeds s = .next after ∧
    ((s.outq.wr - s.outq.rd).val ≠ 9 → exec .cmdResend s = .next { s with
      outq := { s.outq with rd := s.outq.rd - 1 } }) ∧
    ((s.outq.wr - s.outq.rd).val = 9 → exec .cmdResend s = .next s)

/-- R290, R291, R292: a data byte outside a parameter wait is dropped, and inside one ends it; the sentinel is answered
with 0xFE, with no clear, and a wait goes on. The steps are the model's reading (log entry 15). -/
def Obligations.DataBytesAndTheSentinel : Prop :=
  ∀ (s : State) (a : BitVec 7) (b : BitVec 6) (c : BitVec 5) (d : BitVec 3) (e : BitVec 2),
    let after : State := if s.fg.waiting = false then s else { s with fg := { s.fg with
      waiting := false
      todo := s.fg.todo.filter fun o => o ≠ .waitStart ∧ o ≠ .waitTake ∧ o ≠ .waitDeadline } }
    exec (.data007F a) s = .next after ∧ exec (.data80BF b) s = .next after ∧ exec (.dataC0DF c) s = .next after ∧
    exec (.dataE0E7 d) s = .next after ∧ exec (.dataE8EB e) s = .next after ∧ exec .dataECEC s = .next after ∧
    exec .sentinel s = .next { s with fg := { s.fg with todo := .respond 0xFE :: s.fg.todo } }

/-- R293 to R298: the responses are enqueued into `OUTQ`. That one is dropped where `OUTQ` is full is the model's choice
(log entry 24). -/
def Obligations.ResponsesAreEnqueued : Prop :=
  ∀ s : State,
    let after (b : Byte) : State :=
      { s with outq := (s.outq.enq b).2, resp := { status := (s.outq.enq b).1, result := 0 } }
    exec .rspAck s = .next (after 0xFA) ∧ exec .rspResend s = .next (after 0xFE) ∧
    exec .rspSelfTestPass s = .next (after 0xAA) ∧ exec .rspEcho s = .next (after 0xEE) ∧
    exec .rspId1 s = .next (after 0xAB) ∧ exec .rspId2 s = .next (after 0x83)

/-- R299, R300, R301, R305: the key event's bytes are enqueued and recorded, and 0xF0 is followed at once by 0x29. On a full
queue nothing is sent, and the recovery's steps take the place of what is left of the event (log entry 10). -/
def Obligations.KeyBytesAreEnqueuedAndRecorded : Prop :=
  ∀ s : State,
    ((s.outq.wr - s.outq.rd).val ≠ 9 →
      exec .rspMake s = .next { s with
        outq := { s.outq with slot := Memory.write s.outq.slot s.outq.wr.val 0x29, wr := s.outq.wr + 1 }
        resp := { status := .ok, result := 0 }, fg := { s.fg with keys := s.fg.keys ++ [0x29] } } ∧
      exec .rspBreakPrefix s = .next { s with
        outq := { s.outq with slot := Memory.write s.outq.slot s.outq.wr.val 0xF0, wr := s.outq.wr + 1 }
        resp := { status := .ok, result := 0 }
        fg := { s.fg with keys := s.fg.keys ++ [0xF0], todo := .respond 0x29 :: s.fg.todo } }) ∧
    ((s.outq.wr - s.outq.rd).val = 9 →
      let more := s.fg.todo.dropWhile fun o => o = .respond 0x29 ∨ o = .respond 0xF0
      exec .rspMake s = .next { s with
        resp := { status := .full, result := 0 }
        fg := { s.fg with todo := .request 0x0200 :: .respond 0xF0 :: .request 0x2100 :: more } } ∧
      exec .rspBreakPrefix s = .next { s with
        resp := { status := .full, result := 0 }
        fg := { s.fg with todo := .request 0x0200 :: .respond 0xF0 :: .request 0x2100 :: more } })

/-- R282, R283, R285: when the foreground has taken the steps of a reply, with no tick between them, `OUTQ` holds exactly
the reply, whatever it held before. R115, R118, R250: the steps that carry out a reply, an event or a recovery are the port
operation of the request and the link byte of the response's code, from every state. The steps of a reply and the canonical
form are the model's (log entries 11, 15), and so are the step as an entry of a list and the refusal of a byte that is no
response code, which no rule enqueues (log entry 14). -/
def Obligations.RepliesReplaceTheQueue : Prop :=
  (∀ (s : State) (q1 q2 q3 : Bool), s.outq.slot.wf = true →
    (∃ t, andThen (andThen (andThen (exec .cmdReset s) (foregroundStep q1)) (foregroundStep q2)) (foregroundStep q3) =
        .next t ∧ t.outq.contents = [0xFA, 0xAA] ∧ t.inq = s.inq ∧ t.lerr = s.lerr ∧ t.ticks = s.ticks) ∧
    ∃ t, andThen (andThen (andThen (exec .cmdReadId s) (foregroundStep q1)) (foregroundStep q2)) (foregroundStep q3) =
        .next t ∧ t.outq.contents = [0xAB, 0x83] ∧ t.inq = s.inq ∧ t.lerr = s.lerr ∧ t.ticks = s.ticks) ∧
  (∀ (s : State) (q : Bool) (req : Req) (rest : List FgOp), s.fg.todo = .request req :: rest →
    (∃ t, foregroundStep q s = .next t) ∧
    foregroundStep q s = exec (decodePort req) { s with req := req, fg := { s.fg with todo := rest } }) ∧
  ∀ (s : State) (q : Bool) (b : Byte) (rest : List FgOp), s.fg.todo = .respond b :: rest →
    let sends (code : Byte) (i : Instr) : Prop := b = code → (∃ t, foregroundStep q s = .next t) ∧
      foregroundStep q s = exec i { s with req := 0x01#8 ++ code, fg := { s.fg with todo := rest } }
    sends 0xFA .rspAck ∧ sends 0xFE .rspResend ∧ sends 0xAA .rspSelfTestPass ∧ sends 0xEE .rspEcho ∧
    sends 0xAB .rspId1 ∧ sends 0x83 .rspId2 ∧ sends 0x29 .rspMake ∧ sends 0xF0 .rspBreakPrefix ∧
    (b ∉ [0xFA, 0xFE, 0xAA, 0xEE, 0xAB, 0x83, 0x29, 0xF0] → foregroundStep q s = .refused (.undecodable (.notResponse b)))

/-- R292, R281, R284: the parameter wait: it starts with the time and polls `IN.DEQ`. A data byte ends it and a command
ends it and is handled; the sentinel is answered and it goes on; it ends when `PARAM_WAIT_TICKS` have passed. The loop as a
list of steps is the model's choice (log entries 14, 15), and so is the refusal of a 0xFE that is no sentinel (log entry
16). -/
def Obligations.ParameterWaitIsBounded : Prop :=
  ∀ (s : State) (q : Bool) (rest : List FgOp),
    let others : List FgOp := rest.filter fun o => o ≠ .waitStart ∧ o ≠ .waitTake ∧ o ≠ .waitDeadline
    (s.fg.todo = .waitStart :: rest → foregroundStep q s = .next { s with
      req := 0x3000, resp := { status := .ok, result := s.ticks }
      fg := { s.fg with waiting := true, t0 := s.ticks, todo := .waitTake :: rest } }) ∧
    (s.fg.todo = .waitTake :: rest → s.inq.rd = s.inq.wr → foregroundStep q s = .next { s with
      req := 0x1600, resp := { status := .empty, result := 0 }, fg := { s.fg with todo := .waitDeadline :: rest } }) ∧
    (∀ b : Byte, s.fg.todo = .waitTake :: rest → s.inq.rd ≠ s.inq.wr → b = s.inq.read s.inq.rd →
      let taken (fg : Foreground) : State := { s with
        req := 0x1600, inq := { s.inq with rd := s.inq.rd + 1 }
        resp := { status := .ok, result := BitVec.ofNat 32 b.toNat }, fg := fg }
      (b = Config.rxErrByte ∨ b ≠ 0xFE → foregroundStep q s = exec (classify b) (taken s.fg)) ∧
      (linkClass b = .sentinel → foregroundStep q s = .next (taken { s.fg with todo := .respond 0xFE :: .waitTake :: rest })) ∧
      (linkClass b = .data → s.fg.waiting = true →
        foregroundStep q s = .next (taken { s.fg with waiting := false, todo := others })) ∧
      (linkClass b = .command → b ≠ 0xFE → ∃ reply, foregroundStep q s = .next (taken { s.fg with
          waiting := false, todo := .request 0x0200 :: (reply ++ others) }) ∧
        (reply = [.respond 0xFA, .waitStart] ∨ ∃ bytes : List Byte, reply = bytes.map .respond)) ∧
      (linkClass b = .command → b = 0xFE → foregroundStep q s = .refused .resendAtInterpreter)) ∧
    (s.fg.todo = .waitDeadline :: rest →
      ((s.ticks - s.fg.t0).toNat < Config.paramWaitTicks → foregroundStep q s = .next { s with
        req := 0x3000, resp := { status := .ok, result := s.ticks }, fg := { s.fg with todo := .waitTake :: rest } }) ∧
      (Config.paramWaitTicks ≤ (s.ticks - s.fg.t0).toNat → foregroundStep q s = .next { s with
        req := 0x3000, resp := { status := .ok, result := s.ticks }
        fg := { s.fg with waiting := false, todo := others } }))

/-- R302: the debounce: three qualifying events in the window raise one trigger; one after the window restarts the count;
with no qualifying event nothing happens. The event source as an input of a step is the model's choice (log entry 14). -/
def Obligations.DebounceCountsThree : Prop :=
  ∀ (s : State) (rest : List FgOp), s.fg.todo = .pollSource :: rest →
    let after (count : Nat) (w0 : Word) (todo : List FgOp) : State := { s with
      req := 0x3000, resp := { status := .ok, result := s.ticks }
      fg := { s.fg with count := count, w0 := w0, todo := todo } }
    (s.fg.count = 0 ∨ (s.ticks - s.fg.w0).toNat > 3 * Config.tickHz →
      foregroundStep true s = .next (after 1 s.ticks rest)) ∧
    (s.fg.count = 1 → (s.ticks - s.fg.w0).toNat ≤ 3 * Config.tickHz →
      foregroundStep true s = .next (after 2 s.fg.w0 rest)) ∧
    (s.fg.count = 2 → (s.ticks - s.fg.w0).toNat ≤ 3 * Config.tickHz →
      foregroundStep true s = .next (after 0 s.fg.w0 (.checkInbound :: rest))) ∧
    foregroundStep false s = .next { s with fg := { s.fg with todo := rest } }

/-- R301, R303, R304: a trigger becomes a make and a break only when nothing is pending inbound and no reply is in flight;
a link error is answered with `OUT.CLR`, the break where a key byte was queued, and `LERR.CLR`. A pass of the loop begins
with `LERR.RD`, and then, after a recovery if there is one, takes a byte and polls the event source, in that order. The
steps are the model's choice (log entry 14). -/
def Obligations.TriggersAndRecovery : Prop :=
  ∀ (s : State) (q : Bool) (rest : List FgOp),
    let after (req : Req) (result : Word) (todo : List FgOp) : State := { s with
      req := req, resp := { status := .ok, result := result }, fg := { s.fg with todo := todo } }
    let seen (rest : List FgOp) : State := { s with
      req := 0x2000, resp := { status := .ok, result := 0 }, fg := { s.fg with keys := [], todo := rest } }
    (s.fg.todo = .checkInbound :: rest → foregroundStep q s = .next
      (if s.inq.rd = s.inq.wr then after 0x1300 1 (.checkOutbound :: rest) else after 0x1300 0 rest)) ∧
    (s.fg.todo = .checkOutbound :: rest → foregroundStep q s = .next
      (if s.outq.rd = s.outq.wr then after 0x0300 1 (.respond 0x29 :: .respond 0xF0 :: rest) else after 0x0300 0 rest)) ∧
    (s.fg.todo = .checkLinkError :: rest →
      (s.lerr = false → foregroundStep q s = .next (seen rest)) ∧
      (s.lerr = true → s.fg.keys = [] → foregroundStep q s = .next
        (after 0x2000 1 (.request 0x0200 :: .request 0x2100 :: rest))) ∧
      (s.lerr = true → s.fg.keys ≠ [] → foregroundStep q s = .next
        (after 0x2000 1 (.request 0x0200 :: .respond 0xF0 :: .request 0x2100 :: rest)))) ∧
    (s.fg.todo = [] →
      (s.lerr = false → foregroundStep q s = .next (seen [.takeByte, .pollSource])) ∧
      (s.lerr = true → s.fg.keys = [] → foregroundStep q s = .next
        (after 0x2000 1 [.request 0x0200, .request 0x2100, .takeByte, .pollSource])) ∧
      (s.lerr = true → s.fg.keys ≠ [] → foregroundStep q s = .next
        (after 0x2000 1 [.request 0x0200, .respond 0xF0, .request 0x2100, .takeByte, .pollSource])))

/-- R44, R280, R327: no step of the foreground that keeps the contracts writes a field the engine owns. The foreground's
steps are the model's choice (log entry 14). -/
def Obligations.ForegroundKeepsToThePort : Prop :=
  ∀ (s t : State) (rest : List Item) (q : Bool), s.script = .event (.foreground q) :: rest → step s = .next t →
    t.st = s.st ∧ t.ph = s.ph ∧ t.gen = s.gen ∧ t.cnt = s.cnt ∧ t.par = s.par ∧ t.sh = s.sh ∧
    t.clkOe = s.clkOe ∧ t.datOe = s.datOe ∧ t.ticks = s.ticks ∧
    t.outq.rd = s.outq.rd ∧ t.inq.wr = s.inq.wr ∧ t.inq.slot = s.inq.slot ∧ (t.lerr = s.lerr ∨ t.lerr = false)

/-- R281, R304: the classes of a byte taken from `INQ`, and what the foreground does with the byte it takes in a pass: it
is handled by its class. With `INQ` empty nothing is handled. A 0xFE that is no sentinel, for which R284 has no rule, is
refused (log entry 16); the steps of the loop are the model's choice (log entry 14). -/
def Obligations.ClassesOfLinkBytes : Prop :=
  (∀ b : Byte,
    (b = Config.rxErrByte → linkClass b = .sentinel ∧ classify b = .sentinel) ∧
    (b ≠ Config.rxErrByte → 0xED ≤ b.toNat → linkClass b = .command ∧ (classify b).space = .link ∧
      encode (classify b) = b.toNat) ∧
    (b ≠ Config.rxErrByte → b.toNat < 0xED → linkClass b = .data ∧ (classify b).space = .link ∧
      encode (classify b) = b.toNat)) ∧
  ∀ (s : State) (q : Bool) (rest : List FgOp), s.fg.todo = .takeByte :: rest →
    (s.inq.rd = s.inq.wr → foregroundStep q s = .next { s with
      req := 0x1600, resp := { status := .empty, result := 0 }, fg := { s.fg with todo := rest } }) ∧
    ∀ b : Byte, s.inq.rd ≠ s.inq.wr → b = s.inq.read s.inq.rd →
      (b = Config.rxErrByte ∨ b ≠ 0xFE → (∃ t, foregroundStep q s = .next t) ∧
        foregroundStep q s = exec (classify b) { s with
          req := 0x1600, inq := { s.inq with rd := s.inq.rd + 1 }
          resp := { status := .ok, result := BitVec.ofNat 32 b.toNat }, fg := { s.fg with todo := rest } }) ∧
      (b ≠ Config.rxErrByte → b = 0xFE → foregroundStep q s = .refused .resendAtInterpreter)
end

