-- ==== Sys2Proof/Laws/Memory.lean ====
section
/-! SUPPORT. The laws of a queue's store: a read after a write, and the canonical form. -/
namespace Sys2Proof.Machine

@[simp] theorem Memory.read_nil (k : Nat) : Memory.read [] k = unlisted := rfl

/-- A write leaves every other slot alone. -/
theorem Memory.read_write_other (m : Memory) {k j : Nat} (v : Byte) (h : j ≠ k) :
    (Memory.write m k v).read j = Memory.read m j := by
  induction m with
  | nil =>
    unfold Memory.write
    split <;> simp [Memory.read, h]
  | cons c m ih =>
    obtain ⟨a, w⟩ := c
    unfold Memory.write
    split
    · split <;> simp [Memory.read, h]
    · split
      · split <;> simp_all [Memory.read]
      · simp only [Memory.read, ih]

/-- Below the first slot of a canonical store every slot reads as unlisted. -/
theorem Memory.read_below {m : Memory} {lo k : Nat} (hm : Memory.wfFrom lo m = true) (hk : k < lo) :
    Memory.read m k = unlisted := by
  induction m generalizing lo with
  | nil => rfl
  | cons c m ih =>
    obtain ⟨a, w⟩ := c
    simp only [Memory.wfFrom, Bool.and_eq_true, decide_eq_true_eq] at hm
    rw [Memory.read, if_neg (by omega), ih hm.2 (by omega)]

theorem Memory.read_write_same_from {m : Memory} {lo k : Nat} (v : Byte) (hm : Memory.wfFrom lo m = true) :
    (Memory.write m k v).read k = v := by
  induction m generalizing lo with
  | nil =>
    unfold Memory.write
    split <;> simp_all [Memory.read]
  | cons c m ih =>
    obtain ⟨a, w⟩ := c
    simp only [Memory.wfFrom, Bool.and_eq_true, decide_eq_true_eq] at hm
    unfold Memory.write
    split
    · split
      · rw [Memory.read, if_neg (by omega), Memory.read_below hm.2 (by omega)]
        exact Eq.symm ‹v = unlisted›
      · simp [Memory.read]
    · split
      · split
        · rw [Memory.read_below hm.2 (by omega)]
          exact Eq.symm ‹v = unlisted›
        · simp [Memory.read]
      · rw [Memory.read, if_neg (by assumption), ih hm.2]

/-- A read after a write to the same slot gives the byte written. -/
theorem Memory.read_write_same {m : Memory} {k : Nat} (v : Byte) (hm : m.wf = true) :
    (Memory.write m k v).read k = v := Memory.read_write_same_from v hm

theorem Memory.wfFrom_mono {m : Memory} {lo lo' : Nat} (hm : Memory.wfFrom lo' m = true) (h : lo ≤ lo') :
    Memory.wfFrom lo m = true := by
  cases m with
  | nil => rfl
  | cons c m =>
    obtain ⟨a, w⟩ := c
    simp only [Memory.wfFrom, Bool.and_eq_true, decide_eq_true_eq] at hm ⊢
    exact ⟨⟨⟨by omega, hm.1.1.2⟩, hm.1.2⟩, hm.2⟩

theorem Memory.wfFrom_write {m : Memory} {lo k : Nat} (v : Byte) (hm : Memory.wfFrom lo m = true) (hlo : lo ≤ k)
    (hk : k < Config.qslots) : Memory.wfFrom lo (Memory.write m k v) = true := by
  induction m generalizing lo with
  | nil =>
    unfold Memory.write
    split
    · rfl
    · simp_all [Memory.wfFrom]
  | cons c m ih =>
    obtain ⟨a, w⟩ := c
    have hm' := hm
    simp only [Memory.wfFrom, Bool.and_eq_true, decide_eq_true_eq] at hm'
    obtain ⟨⟨⟨h1, h2⟩, h3⟩, h4⟩ := hm'
    unfold Memory.write
    split
    · split
      · exact hm
      · simp only [Memory.wfFrom, Bool.and_eq_true, decide_eq_true_eq]
        exact ⟨⟨⟨hlo, hk⟩, ‹_›⟩, ⟨⟨⟨by omega, h2⟩, h3⟩, h4⟩⟩
    · split
      · split
        · exact Memory.wfFrom_mono h4 (by omega)
        · subst k
          simp only [Memory.wfFrom, Bool.and_eq_true, decide_eq_true_eq]
          exact ⟨⟨⟨h1, h2⟩, ‹_›⟩, h4⟩
      · simp only [Memory.wfFrom, Bool.and_eq_true, decide_eq_true_eq]
        exact ⟨⟨⟨h1, h2⟩, h3⟩, ih h4 (by omega)⟩

/-- A write keeps the canonical form. -/
theorem Memory.wf_write {m : Memory} {k : Nat} (v : Byte) (hm : m.wf = true) (hk : k < Config.qslots) :
    (Memory.write m k v).wf = true := Memory.wfFrom_write v hm (Nat.zero_le k) hk

theorem Memory.ext_from {m m' : Memory} {lo : Nat} (hm : Memory.wfFrom lo m = true) (hm' : Memory.wfFrom lo m' = true)
    (h : ∀ k, Memory.read m k = Memory.read m' k) : m = m' := by
  induction m generalizing lo m' with
  | nil =>
    cases m' with
    | nil => rfl
    | cons c m' =>
      obtain ⟨a, w⟩ := c
      simp only [Memory.wfFrom, Bool.and_eq_true, decide_eq_true_eq] at hm'
      have := h a
      simp only [Memory.read, if_true] at this
      exact absurd this.symm hm'.1.2
  | cons c m ih =>
    obtain ⟨a, w⟩ := c
    simp only [Memory.wfFrom, Bool.and_eq_true, decide_eq_true_eq] at hm
    cases m' with
    | nil =>
      have := h a
      simp only [Memory.read, if_true] at this
      exact absurd this hm.1.2
    | cons c' m' =>
      obtain ⟨a', w'⟩ := c'
      simp only [Memory.wfFrom, Bool.and_eq_true, decide_eq_true_eq] at hm'
      have haa : a = a' := by
        rcases Nat.lt_trichotomy a a' with hlt | heq | hgt
        · have := h a
          rw [Memory.read, if_pos rfl, Memory.read, if_neg (by omega), Memory.read_below hm'.2 (by omega)] at this
          exact absurd this hm.1.2
        · exact heq
        · have := h a'
          rw [Memory.read, if_neg (by omega), Memory.read_below hm.2 (by omega), Memory.read, if_pos rfl] at this
          exact absurd this.symm hm'.1.2
      subst haa
      have hw : w = w' := by simpa [Memory.read] using h a
      subst hw
      have htail : m = m' := by
        refine ih hm.2 hm'.2 fun k => ?_
        by_cases hk : k = a
        · subst hk
          rw [Memory.read_below hm.2 (by omega), Memory.read_below hm'.2 (by omega)]
        · simpa [Memory.read, hk] using h k
      rw [htail]

/-- Canonical stores that read alike are equal. -/
theorem Memory.ext {m m' : Memory} (hm : m.wf = true) (hm' : m'.wf = true)
    (h : ∀ k, Memory.read m k = Memory.read m' k) : m = m' := Memory.ext_from hm hm' h

end Sys2Proof.Machine
end

