-- ==== Sys2Proof/Laws/Queue.lean ====
section
/-! SUPPORT. What each queue primitive can do, said once (R150 to R157). -/
namespace Sys2Proof.Machine

theorem Queue.count_le (q : Queue) : q.count ≤ 9 := by
  have := (q.wr - q.rd).isLt
  unfold Queue.count
  omega

theorem Queue.enq_full {q : Queue} (b : Byte) (h : q.count = 9) : q.enq b = (.full, q) := by
  simp [Queue.enq, Config.qcap, h]

theorem Queue.enq_ok {q : Queue} (b : Byte) (h : q.count ≠ 9) :
    q.enq b = (.ok, { q with slot := Memory.write q.slot q.wr.val b, wr := q.wr + 1 }) := by
  simp [Queue.enq, Config.qcap, h]

theorem Queue.deq_empty {q : Queue} (h : q.count = 0) : q.deq = (.empty, 0, q) := by
  simp [Queue.deq, h]

theorem Queue.deq_ok {q : Queue} (h : q.count ≠ 0) : q.deq = (.ok, q.read q.rd, { q with rd := q.rd + 1 }) := by
  simp [Queue.deq, h]

theorem Queue.unq_full {q : Queue} (h : q.count = 9) : q.unq = (.full, q) := by
  simp [Queue.unq, Config.qcap, h]

theorem Queue.unq_ok {q : Queue} (h : q.count ≠ 9) : q.unq = (.ok, { q with rd := q.rd - 1 }) := by
  simp [Queue.unq, Config.qcap, h]

/-- An enqueue, whatever it answers, leaves the read cursor alone. -/
@[simp] theorem Queue.enq_rd (q : Queue) (b : Byte) : (q.enq b).2.rd = q.rd := by
  unfold Queue.enq
  split <;> rfl

/-- A dequeue leaves the store alone. -/
@[simp] theorem Queue.deq_slot (q : Queue) : q.deq.2.2.slot = q.slot := by
  unfold Queue.deq
  split <;> rfl

/-- A dequeue leaves the write cursor alone. -/
@[simp] theorem Queue.deq_wr (q : Queue) : q.deq.2.2.wr = q.wr := by
  unfold Queue.deq
  split <;> rfl

/-- An unqueue leaves the store alone. -/
@[simp] theorem Queue.unq_slot (q : Queue) : q.unq.2.slot = q.slot := by
  unfold Queue.unq
  split <;> rfl

/-- An unqueue leaves the write cursor alone. -/
@[simp] theorem Queue.unq_wr (q : Queue) : q.unq.2.wr = q.wr := by
  unfold Queue.unq
  split <;> rfl

@[simp] theorem Queue.clr_slot (q : Queue) : q.clr.slot = q.slot := rfl
@[simp] theorem Queue.clr_rd (q : Queue) : q.clr.rd = q.rd := rfl
@[simp] theorem Queue.clr_wr (q : Queue) : q.clr.wr = q.rd := rfl

/-- An enqueue leaves every slot but the one at the write cursor alone. -/
theorem Queue.enq_read_other (q : Queue) (b : Byte) {i : Cursor} (h : i ≠ q.wr) : (q.enq b).2.read i = q.read i := by
  unfold Queue.enq
  split
  · rfl
  · exact Memory.read_write_other q.slot b fun hv => h (Fin.ext hv)

/-- An accepted enqueue stores the byte at the write cursor. -/
theorem Queue.enq_read_same {q : Queue} (b : Byte) (hw : q.slot.wf = true) (h : q.count ≠ 9) :
    (q.enq b).2.read q.wr = b := by
  rw [Queue.enq_ok b h]
  exact Memory.read_write_same b hw

/-- An enqueue keeps the store's canonical form. -/
theorem Queue.enq_wf {q : Queue} (b : Byte) (hw : q.slot.wf = true) : (q.enq b).2.slot.wf = true := by
  unfold Queue.enq
  split
  · exact hw
  · exact Memory.wf_write b hw q.wr.isLt

/-- A byte read after an enqueue was there before, or is the byte enqueued. -/
theorem Queue.enq_read_cases {q : Queue} (b : Byte) (hw : q.slot.wf = true) (i : Cursor) :
    (q.enq b).2.read i = q.read i ∨ (q.enq b).2.read i = b := by
  by_cases hc : q.count = 9
  · exact .inl (by rw [Queue.enq_full b hc])
  · by_cases hi : i = q.wr
    · exact .inr (hi ▸ Queue.enq_read_same b hw hc)
    · exact .inl (Queue.enq_read_other q b hi)

/-- A queue is empty exactly when its cursors meet (R155). -/
theorem Queue.count_eq_zero (q : Queue) : q.count = 0 ↔ q.rd = q.wr := by
  unfold Queue.count
  rw [Fin.val_eq_zero_iff, sub_eq_zero]
  exact eq_comm

theorem Queue.isEmpty_eq (q : Queue) : q.isEmpty = decide (q.rd = q.wr) := by
  rw [Queue.isEmpty, Bool.eq_iff_iff]
  simp [Queue.count_eq_zero]

theorem Cursor.count_inc_rd : ∀ r w : Cursor, (w - r).val ≠ 0 → (w - r).val = (w - (r + 1)).val + 1 := by decide

theorem Cursor.count_inc_wr : ∀ r w : Cursor, (w - r).val ≠ 9 → (w + 1 - r).val = (w - r).val + 1 := by decide

theorem Cursor.count_dec_rd : ∀ r w : Cursor, (w - r).val ≠ 9 → (w - (r - 1)).val = (w - r).val + 1 := by decide

theorem Cursor.rd_add_count : ∀ r w : Cursor, r + Fin.ofNat 10 (w - r).val = w := by decide

theorem Cursor.ofNat_succ : ∀ k : Fin 9, Fin.ofNat 10 (k.val + 1) = 1 + Fin.ofNat 10 k.val := by decide

theorem Cursor.inside_ne_wr : ∀ r w k : Cursor, k.val < (w - r).val → r + Fin.ofNat 10 k.val ≠ w := by decide

/-- The front, then the rest: what a dequeue takes, and what it leaves (R159). -/
theorem Queue.contents_of_ne_empty {q : Queue} (h : q.count ≠ 0) :
    q.contents = q.read q.rd :: ({ q with rd := q.rd + 1 } : Queue).contents := by
  have hc : q.count = ({ q with rd := q.rd + 1 } : Queue).count + 1 := Cursor.count_inc_rd q.rd q.wr h
  have hle := Queue.count_le q
  rw [Queue.contents, hc, List.range_succ_eq_map, List.map_cons, List.map_map, Queue.contents]
  congr 1
  · congr 1
    exact add_zero q.rd
  · apply List.map_congr_left
    intro k hk
    have hk' := List.mem_range.mp hk
    have := Cursor.ofNat_succ ⟨k, by omega⟩
    simp only [Function.comp, Nat.succ_eq_add_one, Queue.read]
    simp only at this
    rw [this, add_assoc]

/-- An accepted enqueue appends (R159). -/
theorem Queue.contents_enq {q : Queue} (b : Byte) (hw : q.slot.wf = true) (h : q.count ≠ 9) :
    (q.enq b).2.contents = q.contents ++ [b] := by
  have hc : (q.enq b).2.count = q.count + 1 := by
    rw [Queue.enq_ok b h]
    exact Cursor.count_inc_wr q.rd q.wr h
  have hle := Queue.count_le q
  rw [Queue.contents, hc, List.range_succ, List.map_append, Queue.contents, Queue.enq_rd]
  congr 1
  · apply List.map_congr_left
    intro k hk
    have hk' : k < (q.wr - q.rd).val := List.mem_range.mp hk
    exact Queue.enq_read_other q b (Cursor.inside_ne_wr q.rd q.wr ⟨k, by omega⟩ hk')
  · have : q.rd + Fin.ofNat 10 q.count = q.wr := Cursor.rd_add_count q.rd q.wr
    rw [List.map_singleton, this, Queue.enq_read_same b hw h]

end Sys2Proof.Machine
end

