-- ==== Sys2Proof/Laws/State.lean ====
section
/-! SUPPORT. One lemma per field per named update of the state, true by `rfl`. -/
namespace Sys2Proof.Machine

variable (s : State)

@[simp] theorem State.withHost_st (hclk hdat : Bool) : (s.withHost hclk hdat).st = s.st := rfl
@[simp] theorem State.withHost_ph (hclk hdat : Bool) : (s.withHost hclk hdat).ph = s.ph := rfl
@[simp] theorem State.withHost_gen (hclk hdat : Bool) : (s.withHost hclk hdat).gen = s.gen := rfl
@[simp] theorem State.withHost_cnt (hclk hdat : Bool) : (s.withHost hclk hdat).cnt = s.cnt := rfl
@[simp] theorem State.withHost_par (hclk hdat : Bool) : (s.withHost hclk hdat).par = s.par := rfl
@[simp] theorem State.withHost_sh (hclk hdat : Bool) : (s.withHost hclk hdat).sh = s.sh := rfl
@[simp] theorem State.withHost_lerr (hclk hdat : Bool) : (s.withHost hclk hdat).lerr = s.lerr := rfl
@[simp] theorem State.withHost_clkOe (hclk hdat : Bool) : (s.withHost hclk hdat).clkOe = s.clkOe := rfl
@[simp] theorem State.withHost_datOe (hclk hdat : Bool) : (s.withHost hclk hdat).datOe = s.datOe := rfl
@[simp] theorem State.withHost_ticks (hclk hdat : Bool) : (s.withHost hclk hdat).ticks = s.ticks := rfl
@[simp] theorem State.withHost_outq (hclk hdat : Bool) : (s.withHost hclk hdat).outq = s.outq := rfl
@[simp] theorem State.withHost_inq (hclk hdat : Bool) : (s.withHost hclk hdat).inq = s.inq := rfl
@[simp] theorem State.withHost_fg (hclk hdat : Bool) : (s.withHost hclk hdat).fg = s.fg := rfl
@[simp] theorem State.withHost_hclk (hclk hdat : Bool) : (s.withHost hclk hdat).hclk = hclk := rfl
@[simp] theorem State.withHost_hdat (hclk hdat : Bool) : (s.withHost hclk hdat).hdat = hdat := rfl
@[simp] theorem State.withHost_req (hclk hdat : Bool) : (s.withHost hclk hdat).req = s.req := rfl
@[simp] theorem State.withHost_resp (hclk hdat : Bool) : (s.withHost hclk hdat).resp = s.resp := rfl
@[simp] theorem State.withHost_wire (hclk hdat : Bool) : (s.withHost hclk hdat).wire = s.wire := rfl
@[simp] theorem State.withHost_script (hclk hdat : Bool) : (s.withHost hclk hdat).script = s.script := rfl
@[simp] theorem State.withHost_seq (hclk hdat : Bool) : (s.withHost hclk hdat).seq = s.seq := rfl

@[simp] theorem State.respond_st (st : Status) (r : Word) : (s.respond st r).st = s.st := rfl
@[simp] theorem State.respond_ph (st : Status) (r : Word) : (s.respond st r).ph = s.ph := rfl
@[simp] theorem State.respond_gen (st : Status) (r : Word) : (s.respond st r).gen = s.gen := rfl
@[simp] theorem State.respond_cnt (st : Status) (r : Word) : (s.respond st r).cnt = s.cnt := rfl
@[simp] theorem State.respond_par (st : Status) (r : Word) : (s.respond st r).par = s.par := rfl
@[simp] theorem State.respond_sh (st : Status) (r : Word) : (s.respond st r).sh = s.sh := rfl
@[simp] theorem State.respond_lerr (st : Status) (r : Word) : (s.respond st r).lerr = s.lerr := rfl
@[simp] theorem State.respond_clkOe (st : Status) (r : Word) : (s.respond st r).clkOe = s.clkOe := rfl
@[simp] theorem State.respond_datOe (st : Status) (r : Word) : (s.respond st r).datOe = s.datOe := rfl
@[simp] theorem State.respond_ticks (st : Status) (r : Word) : (s.respond st r).ticks = s.ticks := rfl
@[simp] theorem State.respond_outq (st : Status) (r : Word) : (s.respond st r).outq = s.outq := rfl
@[simp] theorem State.respond_inq (st : Status) (r : Word) : (s.respond st r).inq = s.inq := rfl
@[simp] theorem State.respond_fg (st : Status) (r : Word) : (s.respond st r).fg = s.fg := rfl
@[simp] theorem State.respond_hclk (st : Status) (r : Word) : (s.respond st r).hclk = s.hclk := rfl
@[simp] theorem State.respond_hdat (st : Status) (r : Word) : (s.respond st r).hdat = s.hdat := rfl
@[simp] theorem State.respond_req (st : Status) (r : Word) : (s.respond st r).req = s.req := rfl
@[simp] theorem State.respond_resp (st : Status) (r : Word) : (s.respond st r).resp = { status := st, result := r } := rfl
@[simp] theorem State.respond_wire (st : Status) (r : Word) : (s.respond st r).wire = s.wire := rfl
@[simp] theorem State.respond_script (st : Status) (r : Word) : (s.respond st r).script = s.script := rfl
@[simp] theorem State.respond_seq (st : Status) (r : Word) : (s.respond st r).seq = s.seq := rfl

@[simp] theorem State.holdClk_st : (s.holdClk).st = s.st := rfl
@[simp] theorem State.holdClk_ph : (s.holdClk).ph = s.ph := rfl
@[simp] theorem State.holdClk_gen : (s.holdClk).gen = s.gen := rfl
@[simp] theorem State.holdClk_cnt : (s.holdClk).cnt = s.cnt := rfl
@[simp] theorem State.holdClk_par : (s.holdClk).par = s.par := rfl
@[simp] theorem State.holdClk_sh : (s.holdClk).sh = s.sh := rfl
@[simp] theorem State.holdClk_lerr : (s.holdClk).lerr = s.lerr := rfl
@[simp] theorem State.holdClk_clkOe : (s.holdClk).clkOe = true := rfl
@[simp] theorem State.holdClk_datOe : (s.holdClk).datOe = s.datOe := rfl
@[simp] theorem State.holdClk_ticks : (s.holdClk).ticks = s.ticks := rfl
@[simp] theorem State.holdClk_outq : (s.holdClk).outq = s.outq := rfl
@[simp] theorem State.holdClk_inq : (s.holdClk).inq = s.inq := rfl
@[simp] theorem State.holdClk_fg : (s.holdClk).fg = s.fg := rfl
@[simp] theorem State.holdClk_hclk : (s.holdClk).hclk = s.hclk := rfl
@[simp] theorem State.holdClk_hdat : (s.holdClk).hdat = s.hdat := rfl
@[simp] theorem State.holdClk_req : (s.holdClk).req = s.req := rfl
@[simp] theorem State.holdClk_resp : (s.holdClk).resp = s.resp := rfl
@[simp] theorem State.holdClk_wire : (s.holdClk).wire = s.wire := rfl
@[simp] theorem State.holdClk_script : (s.holdClk).script = s.script := rfl
@[simp] theorem State.holdClk_seq : (s.holdClk).seq = s.seq := rfl

@[simp] theorem State.relClk_st : (s.relClk).st = s.st := rfl
@[simp] theorem State.relClk_ph : (s.relClk).ph = s.ph := rfl
@[simp] theorem State.relClk_gen : (s.relClk).gen = s.gen := rfl
@[simp] theorem State.relClk_cnt : (s.relClk).cnt = s.cnt := rfl
@[simp] theorem State.relClk_par : (s.relClk).par = s.par := rfl
@[simp] theorem State.relClk_sh : (s.relClk).sh = s.sh := rfl
@[simp] theorem State.relClk_lerr : (s.relClk).lerr = s.lerr := rfl
@[simp] theorem State.relClk_clkOe : (s.relClk).clkOe = false := rfl
@[simp] theorem State.relClk_datOe : (s.relClk).datOe = s.datOe := rfl
@[simp] theorem State.relClk_ticks : (s.relClk).ticks = s.ticks := rfl
@[simp] theorem State.relClk_outq : (s.relClk).outq = s.outq := rfl
@[simp] theorem State.relClk_inq : (s.relClk).inq = s.inq := rfl
@[simp] theorem State.relClk_fg : (s.relClk).fg = s.fg := rfl
@[simp] theorem State.relClk_hclk : (s.relClk).hclk = s.hclk := rfl
@[simp] theorem State.relClk_hdat : (s.relClk).hdat = s.hdat := rfl
@[simp] theorem State.relClk_req : (s.relClk).req = s.req := rfl
@[simp] theorem State.relClk_resp : (s.relClk).resp = s.resp := rfl
@[simp] theorem State.relClk_wire : (s.relClk).wire = s.wire := rfl
@[simp] theorem State.relClk_script : (s.relClk).script = s.script := rfl
@[simp] theorem State.relClk_seq : (s.relClk).seq = s.seq := rfl

@[simp] theorem State.holdDat_st : (s.holdDat).st = s.st := rfl
@[simp] theorem State.holdDat_ph : (s.holdDat).ph = s.ph := rfl
@[simp] theorem State.holdDat_gen : (s.holdDat).gen = s.gen := rfl
@[simp] theorem State.holdDat_cnt : (s.holdDat).cnt = s.cnt := rfl
@[simp] theorem State.holdDat_par : (s.holdDat).par = s.par := rfl
@[simp] theorem State.holdDat_sh : (s.holdDat).sh = s.sh := rfl
@[simp] theorem State.holdDat_lerr : (s.holdDat).lerr = s.lerr := rfl
@[simp] theorem State.holdDat_clkOe : (s.holdDat).clkOe = s.clkOe := rfl
@[simp] theorem State.holdDat_datOe : (s.holdDat).datOe = true := rfl
@[simp] theorem State.holdDat_ticks : (s.holdDat).ticks = s.ticks := rfl
@[simp] theorem State.holdDat_outq : (s.holdDat).outq = s.outq := rfl
@[simp] theorem State.holdDat_inq : (s.holdDat).inq = s.inq := rfl
@[simp] theorem State.holdDat_fg : (s.holdDat).fg = s.fg := rfl
@[simp] theorem State.holdDat_hclk : (s.holdDat).hclk = s.hclk := rfl
@[simp] theorem State.holdDat_hdat : (s.holdDat).hdat = s.hdat := rfl
@[simp] theorem State.holdDat_req : (s.holdDat).req = s.req := rfl
@[simp] theorem State.holdDat_resp : (s.holdDat).resp = s.resp := rfl
@[simp] theorem State.holdDat_wire : (s.holdDat).wire = s.wire := rfl
@[simp] theorem State.holdDat_script : (s.holdDat).script = s.script := rfl
@[simp] theorem State.holdDat_seq : (s.holdDat).seq = s.seq := rfl

@[simp] theorem State.relDat_st : (s.relDat).st = s.st := rfl
@[simp] theorem State.relDat_ph : (s.relDat).ph = s.ph := rfl
@[simp] theorem State.relDat_gen : (s.relDat).gen = s.gen := rfl
@[simp] theorem State.relDat_cnt : (s.relDat).cnt = s.cnt := rfl
@[simp] theorem State.relDat_par : (s.relDat).par = s.par := rfl
@[simp] theorem State.relDat_sh : (s.relDat).sh = s.sh := rfl
@[simp] theorem State.relDat_lerr : (s.relDat).lerr = s.lerr := rfl
@[simp] theorem State.relDat_clkOe : (s.relDat).clkOe = s.clkOe := rfl
@[simp] theorem State.relDat_datOe : (s.relDat).datOe = false := rfl
@[simp] theorem State.relDat_ticks : (s.relDat).ticks = s.ticks := rfl
@[simp] theorem State.relDat_outq : (s.relDat).outq = s.outq := rfl
@[simp] theorem State.relDat_inq : (s.relDat).inq = s.inq := rfl
@[simp] theorem State.relDat_fg : (s.relDat).fg = s.fg := rfl
@[simp] theorem State.relDat_hclk : (s.relDat).hclk = s.hclk := rfl
@[simp] theorem State.relDat_hdat : (s.relDat).hdat = s.hdat := rfl
@[simp] theorem State.relDat_req : (s.relDat).req = s.req := rfl
@[simp] theorem State.relDat_resp : (s.relDat).resp = s.resp := rfl
@[simp] theorem State.relDat_wire : (s.relDat).wire = s.wire := rfl
@[simp] theorem State.relDat_script : (s.relDat).script = s.script := rfl
@[simp] theorem State.relDat_seq : (s.relDat).seq = s.seq := rfl

@[simp] theorem State.goto_st (h : Handler) : (s.goto h).st = h.code := rfl
@[simp] theorem State.goto_ph (h : Handler) : (s.goto h).ph = s.ph := rfl
@[simp] theorem State.goto_gen (h : Handler) : (s.goto h).gen = s.gen := rfl
@[simp] theorem State.goto_cnt (h : Handler) : (s.goto h).cnt = s.cnt := rfl
@[simp] theorem State.goto_par (h : Handler) : (s.goto h).par = s.par := rfl
@[simp] theorem State.goto_sh (h : Handler) : (s.goto h).sh = s.sh := rfl
@[simp] theorem State.goto_lerr (h : Handler) : (s.goto h).lerr = s.lerr := rfl
@[simp] theorem State.goto_clkOe (h : Handler) : (s.goto h).clkOe = s.clkOe := rfl
@[simp] theorem State.goto_datOe (h : Handler) : (s.goto h).datOe = s.datOe := rfl
@[simp] theorem State.goto_ticks (h : Handler) : (s.goto h).ticks = s.ticks := rfl
@[simp] theorem State.goto_outq (h : Handler) : (s.goto h).outq = s.outq := rfl
@[simp] theorem State.goto_inq (h : Handler) : (s.goto h).inq = s.inq := rfl
@[simp] theorem State.goto_fg (h : Handler) : (s.goto h).fg = s.fg := rfl
@[simp] theorem State.goto_hclk (h : Handler) : (s.goto h).hclk = s.hclk := rfl
@[simp] theorem State.goto_hdat (h : Handler) : (s.goto h).hdat = s.hdat := rfl
@[simp] theorem State.goto_req (h : Handler) : (s.goto h).req = s.req := rfl
@[simp] theorem State.goto_resp (h : Handler) : (s.goto h).resp = s.resp := rfl
@[simp] theorem State.goto_wire (h : Handler) : (s.goto h).wire = s.wire := rfl
@[simp] theorem State.goto_script (h : Handler) : (s.goto h).script = s.script := rfl
@[simp] theorem State.goto_seq (h : Handler) : (s.goto h).seq = s.seq := rfl

@[simp] theorem State.advance_st : (s.advance).st = s.st := rfl
@[simp] theorem State.advance_ph : (s.advance).ph = s.ph + 1 := rfl
@[simp] theorem State.advance_gen : (s.advance).gen = s.gen := rfl
@[simp] theorem State.advance_cnt : (s.advance).cnt = s.cnt := rfl
@[simp] theorem State.advance_par : (s.advance).par = s.par := rfl
@[simp] theorem State.advance_sh : (s.advance).sh = s.sh := rfl
@[simp] theorem State.advance_lerr : (s.advance).lerr = s.lerr := rfl
@[simp] theorem State.advance_clkOe : (s.advance).clkOe = s.clkOe := rfl
@[simp] theorem State.advance_datOe : (s.advance).datOe = s.datOe := rfl
@[simp] theorem State.advance_ticks : (s.advance).ticks = s.ticks + 1 := rfl
@[simp] theorem State.advance_outq : (s.advance).outq = s.outq := rfl
@[simp] theorem State.advance_inq : (s.advance).inq = s.inq := rfl
@[simp] theorem State.advance_fg : (s.advance).fg = s.fg := rfl
@[simp] theorem State.advance_hclk : (s.advance).hclk = s.hclk := rfl
@[simp] theorem State.advance_hdat : (s.advance).hdat = s.hdat := rfl
@[simp] theorem State.advance_req : (s.advance).req = s.req := rfl
@[simp] theorem State.advance_resp : (s.advance).resp = s.resp := rfl
@[simp] theorem State.advance_wire : (s.advance).wire = s.wire := rfl
@[simp] theorem State.advance_script : (s.advance).script = s.script := rfl
@[simp] theorem State.advance_seq : (s.advance).seq = s.seq := rfl

@[simp] theorem State.enterIdle_st : (s.enterIdle).st = Handler.idle.code := rfl
@[simp] theorem State.enterIdle_ph : (s.enterIdle).ph = s.ph := rfl
@[simp] theorem State.enterIdle_gen : (s.enterIdle).gen = s.gen := rfl
@[simp] theorem State.enterIdle_cnt : (s.enterIdle).cnt = 0 := rfl
@[simp] theorem State.enterIdle_par : (s.enterIdle).par = false := rfl
@[simp] theorem State.enterIdle_sh : (s.enterIdle).sh = 0 := rfl
@[simp] theorem State.enterIdle_lerr : (s.enterIdle).lerr = s.lerr := rfl
@[simp] theorem State.enterIdle_clkOe : (s.enterIdle).clkOe = s.clkOe := rfl
@[simp] theorem State.enterIdle_datOe : (s.enterIdle).datOe = s.datOe := rfl
@[simp] theorem State.enterIdle_ticks : (s.enterIdle).ticks = s.ticks := rfl
@[simp] theorem State.enterIdle_outq : (s.enterIdle).outq = s.outq := rfl
@[simp] theorem State.enterIdle_inq : (s.enterIdle).inq = s.inq := rfl
@[simp] theorem State.enterIdle_fg : (s.enterIdle).fg = s.fg := rfl
@[simp] theorem State.enterIdle_hclk : (s.enterIdle).hclk = s.hclk := rfl
@[simp] theorem State.enterIdle_hdat : (s.enterIdle).hdat = s.hdat := rfl
@[simp] theorem State.enterIdle_req : (s.enterIdle).req = s.req := rfl
@[simp] theorem State.enterIdle_resp : (s.enterIdle).resp = s.resp := rfl
@[simp] theorem State.enterIdle_wire : (s.enterIdle).wire = s.wire := rfl
@[simp] theorem State.enterIdle_script : (s.enterIdle).script = s.script := rfl
@[simp] theorem State.enterIdle_seq : (s.enterIdle).seq = s.seq := rfl

@[simp] theorem State.takeover_st : (s.takeover).st = Handler.inhibited.code := rfl
@[simp] theorem State.takeover_ph : (s.takeover).ph = s.ph := rfl
@[simp] theorem State.takeover_gen : (s.takeover).gen = s.gen := rfl
@[simp] theorem State.takeover_cnt : (s.takeover).cnt = s.cnt := rfl
@[simp] theorem State.takeover_par : (s.takeover).par = s.par := rfl
@[simp] theorem State.takeover_sh : (s.takeover).sh = s.sh := rfl
@[simp] theorem State.takeover_lerr : (s.takeover).lerr = true := rfl
@[simp] theorem State.takeover_clkOe : (s.takeover).clkOe = s.clkOe := rfl
@[simp] theorem State.takeover_datOe : (s.takeover).datOe = false := rfl
@[simp] theorem State.takeover_ticks : (s.takeover).ticks = s.ticks := rfl
@[simp] theorem State.takeover_outq : (s.takeover).outq = s.outq := rfl
@[simp] theorem State.takeover_inq : (s.takeover).inq = s.inq := rfl
@[simp] theorem State.takeover_fg : (s.takeover).fg = s.fg := rfl
@[simp] theorem State.takeover_hclk : (s.takeover).hclk = s.hclk := rfl
@[simp] theorem State.takeover_hdat : (s.takeover).hdat = s.hdat := rfl
@[simp] theorem State.takeover_req : (s.takeover).req = s.req := rfl
@[simp] theorem State.takeover_resp : (s.takeover).resp = s.resp := rfl
@[simp] theorem State.takeover_wire : (s.takeover).wire = s.wire := rfl
@[simp] theorem State.takeover_script : (s.takeover).script = s.script := rfl
@[simp] theorem State.takeover_seq : (s.takeover).seq = s.seq := rfl

@[simp] theorem State.push_st (ops : List FgOp) : (s.push ops).st = s.st := rfl
@[simp] theorem State.push_ph (ops : List FgOp) : (s.push ops).ph = s.ph := rfl
@[simp] theorem State.push_gen (ops : List FgOp) : (s.push ops).gen = s.gen := rfl
@[simp] theorem State.push_cnt (ops : List FgOp) : (s.push ops).cnt = s.cnt := rfl
@[simp] theorem State.push_par (ops : List FgOp) : (s.push ops).par = s.par := rfl
@[simp] theorem State.push_sh (ops : List FgOp) : (s.push ops).sh = s.sh := rfl
@[simp] theorem State.push_lerr (ops : List FgOp) : (s.push ops).lerr = s.lerr := rfl
@[simp] theorem State.push_clkOe (ops : List FgOp) : (s.push ops).clkOe = s.clkOe := rfl
@[simp] theorem State.push_datOe (ops : List FgOp) : (s.push ops).datOe = s.datOe := rfl
@[simp] theorem State.push_ticks (ops : List FgOp) : (s.push ops).ticks = s.ticks := rfl
@[simp] theorem State.push_outq (ops : List FgOp) : (s.push ops).outq = s.outq := rfl
@[simp] theorem State.push_inq (ops : List FgOp) : (s.push ops).inq = s.inq := rfl
@[simp] theorem State.push_fg (ops : List FgOp) : (s.push ops).fg = { s.fg with todo := ops ++ s.fg.todo } := rfl
@[simp] theorem State.push_hclk (ops : List FgOp) : (s.push ops).hclk = s.hclk := rfl
@[simp] theorem State.push_hdat (ops : List FgOp) : (s.push ops).hdat = s.hdat := rfl
@[simp] theorem State.push_req (ops : List FgOp) : (s.push ops).req = s.req := rfl
@[simp] theorem State.push_resp (ops : List FgOp) : (s.push ops).resp = s.resp := rfl
@[simp] theorem State.push_wire (ops : List FgOp) : (s.push ops).wire = s.wire := rfl
@[simp] theorem State.push_script (ops : List FgOp) : (s.push ops).script = s.script := rfl
@[simp] theorem State.push_seq (ops : List FgOp) : (s.push ops).seq = s.seq := rfl

@[simp] theorem State.endWait_st : (s.endWait).st = s.st := rfl
@[simp] theorem State.endWait_ph : (s.endWait).ph = s.ph := rfl
@[simp] theorem State.endWait_gen : (s.endWait).gen = s.gen := rfl
@[simp] theorem State.endWait_cnt : (s.endWait).cnt = s.cnt := rfl
@[simp] theorem State.endWait_par : (s.endWait).par = s.par := rfl
@[simp] theorem State.endWait_sh : (s.endWait).sh = s.sh := rfl
@[simp] theorem State.endWait_lerr : (s.endWait).lerr = s.lerr := rfl
@[simp] theorem State.endWait_clkOe : (s.endWait).clkOe = s.clkOe := rfl
@[simp] theorem State.endWait_datOe : (s.endWait).datOe = s.datOe := rfl
@[simp] theorem State.endWait_ticks : (s.endWait).ticks = s.ticks := rfl
@[simp] theorem State.endWait_outq : (s.endWait).outq = s.outq := rfl
@[simp] theorem State.endWait_inq : (s.endWait).inq = s.inq := rfl
@[simp] theorem State.endWait_fg : (s.endWait).fg = { s.fg with waiting := false, todo := s.fg.todo.filter fun o => !isWaitStep o } := rfl
@[simp] theorem State.endWait_hclk : (s.endWait).hclk = s.hclk := rfl
@[simp] theorem State.endWait_hdat : (s.endWait).hdat = s.hdat := rfl
@[simp] theorem State.endWait_req : (s.endWait).req = s.req := rfl
@[simp] theorem State.endWait_resp : (s.endWait).resp = s.resp := rfl
@[simp] theorem State.endWait_wire : (s.endWait).wire = s.wire := rfl
@[simp] theorem State.endWait_script : (s.endWait).script = s.script := rfl
@[simp] theorem State.endWait_seq : (s.endWait).seq = s.seq := rfl

end Sys2Proof.Machine
end

