-- ==== Sys2Proof/Laws/Engine.lean ====
section
/-! SUPPORT. What the engine's shared operations can do, said once (R180 to R195). -/
namespace Sys2Proof.Machine

@[simp] theorem andThen_next (s : State) (k : State → Outcome) : andThen (.next s) k = k s := rfl

/-- A composition answers a next state exactly where both parts do. -/
theorem andThen_eq_next {o : Outcome} {k : State → Outcome} {u : State} :
    andThen o k = .next u ↔ ∃ t, o = .next t ∧ k t = .next u := by
  cases o <;> simp [andThen]

@[simp] theorem Handler.ofCode_code (h : Handler) : Handler.ofCode h.code = some h := by
  cases h <;> decide

theorem Handler.code_of_ofCode {c : BitVec 4} {h : Handler} (hc : Handler.ofCode c = some h) : c = h.code := by
  revert h
  revert c
  decide

/-- The state codes in use are 0..8 (R106, R107). -/
theorem Handler.ofCode_isSome (c : BitVec 4) : (Handler.ofCode c).isSome = decide (c.toNat ≤ 8) := by
  revert c
  decide

/-- What a handler does as a function of the state: every handler answers a next state. -/
def handlerStep (h : Handler) (s : State) : State :=
  match h with
  | .idle => s.idleLogic
  | .inhibited => inhibitedStep s
  | .sendBit => sendBitStep s
  | .sendParity => sendParityStep s
  | .sendStopBit => s.relDat.enterIdle
  | .receiveBit => receiveBitStep s
  | .receiveParity => { s with par := accumulate s.par s.dat }.goto .receiveAck
  | .receiveAck => receiveAckStep s
  | .receiveEnd => s.relDat.idleLogic

theorem runHandler_next (h : Handler) (s : State) : runHandler h s = .next (handlerStep h s) := by
  cases h <;> rfl

theorem exec_handler (h : Handler) (s : State) : exec h.instr s = .next (handlerStep h s) := by
  cases h <;> rfl

/-- A HIGH tick runs the handler `ST` names, then advances. -/
theorem execHigh_of_code {s : State} {h : Handler} (hs : s.st = h.code) :
    execHigh s = .next (handlerStep h s).advance := by
  simp [execHigh, hs, runHandler_next]

/-- A HIGH tick that answers a next state ran one of the nine handlers. -/
theorem execHigh_cases {s t : State} (h : execHigh s = .next t) :
    ∃ hd, s.st = Handler.code hd ∧ t = (handlerStep hd s).advance := by
  unfold execHigh at h
  split at h
  · rename_i hd hc
    refine ⟨hd, Handler.code_of_ofCode hc, ?_⟩
    simpa [runHandler_next] using h.symm
  · cases h

/-- The Idle decision: the three rows of R196. -/
theorem State.idleLogic_cases (s : State) :
    (s.hclk = false ∧ s.idleLogic = { s.enterIdle with gen := false, clkOe := false, st := Handler.inhibited.code }) ∨
    (s.hclk = true ∧ s.maySend = true ∧ s.idleLogic = { s.enterIdle with gen := false, clkOe := false }.startSend) ∨
    (s.hclk = true ∧ s.maySend = false ∧ s.idleLogic = { s.enterIdle with gen := false, clkOe := false }) := by
  have hm : { s.enterIdle with gen := false, clkOe := false }.maySend = s.maySend := rfl
  have hc : { s.enterIdle with gen := false, clkOe := false }.clk = s.hclk := rfl
  unfold State.idleLogic
  simp only [hm, hc]
  cases h1 : s.hclk
  · exact .inl ⟨rfl, rfl⟩
  · cases h2 : s.maySend
    · exact .inr (.inr ⟨rfl, rfl, rfl⟩)
    · exact .inr (.inl ⟨rfl, rfl, rfl⟩)

theorem countDown_of_ne {c : BitVec 4} (h : c ≠ 0) (seq : Nat) (ticks : Word) : countDown c seq ticks = c - 1 := if_neg h

/-- SendBit: the takeover, or one bit with some count (that is `CNT - 1` where `CNT` is not 0). -/
theorem sendBitStep_cases (s : State) :
    (s.clk = false ∧ sendBitStep s = s.takeover) ∨
    (s.clk = true ∧ ∃ n, (s.cnt ≠ 0 → n = s.cnt - 1) ∧
      sendBitStep s = { s with
        datOe := !s.sh.getLsbD 0, par := s.par ^^ s.sh.getLsbD 0, sh := s.sh >>> 1, cnt := n
        st := if n = 0 then Handler.sendParity.code else s.st }) := by
  cases hc : s.clk
  · exact .inl ⟨rfl, by simp [sendBitStep, hc]⟩
  · refine .inr ⟨rfl, countDown s.cnt s.seq s.ticks, fun h => countDown_of_ne h s.seq s.ticks, ?_⟩
    unfold sendBitStep
    simp only [hc, Bool.true_eq_false, if_false]
    cases s.sh.getLsbD 0 <;> split <;> rfl

/-- ReceiveBit: one bit with some count (that is `CNT - 1` where `CNT` is not 0). -/
theorem receiveBitStep_cases (s : State) :
    ∃ n, (s.cnt ≠ 0 → n = s.cnt - 1) ∧
      receiveBitStep s = { s with
        sh := BitVec.ofBool s.dat ++ s.sh.extractLsb' 1 7, par := s.par ^^ s.dat, cnt := n
        st := if n = 0 then Handler.receiveParity.code else s.st } := by
  refine ⟨countDown s.cnt s.seq s.ticks, fun h => countDown_of_ne h s.seq s.ticks, ?_⟩
  unfold receiveBitStep
  simp only
  by_cases hn : countDown s.cnt s.seq s.ticks = 0
  · rw [if_pos hn, if_pos hn]
    rfl
  · rw [if_neg hn, if_neg hn]
    rfl

/-- A tick is one of the four phases, by `PH`. -/
theorem tick_eq_exec (s : State) : tick s = exec (decodePhase s.ph) s := by
  unfold tick decodePhase
  split
  · rfl
  · split
    · rfl
    · split <;> rfl

/-- A tick at state `s` under `(c, d)` runs one of the four phases, by `PH` (R180). -/
theorem exec_phase_cases {s t : State} {c d : Bool}
    (h : exec (decodePhase s.ph) { s with hclk := c, hdat := d } = .next t) :
    (s.ph = 0 ∧ execFall { s with hclk := c, hdat := d } = .next t) ∨
    (s.ph = 1 ∧ execLow { s with hclk := c, hdat := d } = .next t) ∨
    (s.ph = 2 ∧ execRise { s with hclk := c, hdat := d } = .next t) ∨
    (s.ph = 3 ∧ execHigh { s with hclk := c, hdat := d } = .next t) := by
  have hp : s.ph = 0 ∨ s.ph = 1 ∨ s.ph = 2 ∨ s.ph = 3 := by
    generalize s.ph = p
    revert p
    decide
  rcases hp with hp | hp | hp | hp <;> rw [hp] at h <;> simp [hp] <;> exact h

/-- A HIGH tick runs a handler on a state that has the tick's drive in force, then advances. -/
theorem exec_high_cases {s t : State} {c d : Bool} (hp : s.ph = 3)
    (h : exec (decodePhase s.ph) { s with hclk := c, hdat := d } = .next t) :
    ∃ hd u, u = { s with hclk := c, hdat := d } ∧ u.st = Handler.code hd ∧ t = (handlerStep hd u).advance := by
  rcases exec_phase_cases h with ⟨h', -⟩ | ⟨h', -⟩ | ⟨h', -⟩ | ⟨-, h⟩
  all_goals try (rw [hp] at h'; contradiction)
  obtain ⟨hd, hc, rfl⟩ := execHigh_cases h
  exact ⟨hd, _, rfl, hc, rfl⟩

/-- The frame of every handler (R44): what no handler writes. -/
theorem handlerStep_frame (hd : Handler) (s : State) :
    (handlerStep hd s).ph = s.ph ∧ (handlerStep hd s).ticks = s.ticks ∧
    (handlerStep hd s).outq.wr = s.outq.wr ∧ (handlerStep hd s).outq.slot = s.outq.slot ∧
    (handlerStep hd s).inq.rd = s.inq.rd ∧ (s.lerr = true → (handlerStep hd s).lerr = true) ∧
    (handlerStep hd s).fg = s.fg ∧ (handlerStep hd s).req = s.req ∧ (handlerStep hd s).resp = s.resp ∧
    (handlerStep hd s).wire = s.wire ∧ (handlerStep hd s).seq = s.seq ∧ (handlerStep hd s).script = s.script ∧
    (handlerStep hd s).hclk = s.hclk ∧ (handlerStep hd s).hdat = s.hdat := by
  cases hd
  · rcases s.idleLogic_cases with ⟨-, h⟩ | ⟨-, -, h⟩ | ⟨-, -, h⟩ <;>
      simp [handlerStep, h, State.enterIdle, State.startSend]
  · unfold handlerStep inhibitedStep
    dsimp only
    split
    · simp
    · split <;> simp [State.enterIdle]
  · rcases sendBitStep_cases s with ⟨-, h⟩ | ⟨-, n, -, h⟩ <;> simp [handlerStep, h, State.takeover]
  · unfold handlerStep sendParityStep State.placeBit
    dsimp only
    split
    · simp
    · split <;> simp
  · simp [handlerStep]
  · obtain ⟨n, -, h⟩ := receiveBitStep_cases s
    simp [handlerStep, h]
  · simp [handlerStep]
  · unfold handlerStep receiveAckStep State.deliver
    dsimp only
    split
    · simp
    · split
      · split <;> simp
      · simp
  · rcases s.relDat.idleLogic_cases with ⟨-, h⟩ | ⟨-, -, h⟩ | ⟨-, -, h⟩ <;>
      simp [handlerStep, h, State.enterIdle, State.startSend]

/-- What the port decoder can answer (R116): the four operations that write, the nine that only read, ILLEGAL. -/
theorem decodePort_cases (req : Req) :
    (∃ b, decodePort req = .outEnq b ∧ req.extractLsb' 8 8 = 0x01#8) ∨
    (decodePort req = .outClr ∧ req.extractLsb' 8 8 = 0x02#8) ∨
    (decodePort req = .inDeq ∧ req.extractLsb' 8 8 = 0x16#8) ∨
    (decodePort req = .lerrClr ∧ req.extractLsb' 8 8 = 0x21#8) ∨
    decodePort req ∈ [Instr.outEmpty, .outFull, .outPeek, .inEmpty, .inFull, .inPeek, .lerrRd, .ticksRd, .linesRd] ∨
    ∃ op, decodePort req = .illegal op := by
  unfold decodePort
  generalize req.extractLsb' 8 8 = op
  dsimp only
  by_cases h1 : op = 0x01
  · exact .inl ⟨_, if_pos h1, h1⟩
  rw [if_neg h1]
  by_cases h2 : op = 0x02
  · exact .inr (.inl ⟨if_pos h2, h2⟩)
  rw [if_neg h2]
  by_cases h3 : op = 0x16
  · exact .inr (.inr (.inl ⟨by subst h3; rfl, h3⟩))
  by_cases h4 : op = 0x21
  · exact .inr (.inr (.inr (.inl ⟨by subst h4; rfl, h4⟩)))
  refine .inr (.inr (.inr (.inr ?_)))
  simp only [if_neg h3, if_neg h4]
  repeat' split
  all_goals first | exact .inl (by decide) | exact .inr ⟨_, rfl⟩

end Sys2Proof.Machine
end

