-- ==== Sys2Proof/Laws/Foreground.lean ====
section
/-! SUPPORT. What a step of the foreground is: the entry of the to-do list it takes, the request each entry issues, and how
a byte taken from `INQ` is handled. -/
namespace Sys2Proof.Machine

/-! ### The requests of the loop -/

theorem portStep_lerrRd (s : State) : portStep (requestOf .lerrRd) s = exec .lerrRd { s with req := 0x2000 } := rfl
theorem portStep_inDeq (s : State) : portStep (requestOf .inDeq) s = exec .inDeq { s with req := 0x1600 } := rfl
theorem portStep_ticksRd (s : State) : portStep (requestOf .ticksRd) s = exec .ticksRd { s with req := 0x3000 } := rfl
theorem portStep_inEmpty (s : State) : portStep (requestOf .inEmpty) s = exec .inEmpty { s with req := 0x1300 } := rfl
theorem portStep_outEmpty (s : State) : portStep (requestOf .outEmpty) s = exec .outEmpty { s with req := 0x0300 } := rfl

/-! ### The step -/

theorem foregroundStep_nil {s : State} (h : s.fg.todo = []) (q : Bool) :
    foregroundStep q s = foregroundOp q .checkLinkError (s.push [.takeByte, .pollSource]) := by
  simp [foregroundStep, h]

theorem foregroundStep_cons {s : State} {op : FgOp} {rest : List FgOp} (h : s.fg.todo = op :: rest) (q : Bool) :
    foregroundStep q s = foregroundOp q op { s with fg := { s.fg with todo := rest } } := by
  simp [foregroundStep, h]

/-! ### The classes of a byte -/

theorem linkClass_eq_sentinel {b : Byte} : linkClass b = .sentinel ↔ b = Config.rxErrByte := by
  unfold linkClass
  split
  · simpa
  · split <;> simpa

theorem linkClass_eq_command {b : Byte} : linkClass b = .command ↔ b ≠ Config.rxErrByte ∧ Config.cmdMin ≤ b := by
  unfold linkClass
  split
  · simp [*]
  · split <;> simp [*]

/-- A sentinel is `Instr.sentinel`, any other byte the link byte of its value. -/
theorem classify_eq (b : Byte) : classify b = if b = Config.rxErrByte then .sentinel else decodeLink b := by
  by_cases h : b = Config.rxErrByte
  · simp [classify, linkClass, h]
  · by_cases hc : Config.cmdMin ≤ b <;> simp [classify, linkClass, h, hc]

theorem handleByte_of_class {b : Byte} (h : b = Config.rxErrByte ∨ b ≠ Config.resendCode) (s : State) :
    handleByte b s = exec (classify b) s :=
  if_neg fun ⟨hr, hc⟩ => h.elim (linkClass_eq_command.mp hc).1 (· hr)

theorem handleByte_resend (h : Config.resendCode ≠ Config.rxErrByte) (s : State) :
    handleByte Config.resendCode s = .refused .resendAtInterpreter :=
  if_pos ⟨rfl, linkClass_eq_command.mpr ⟨h, by decide⟩⟩

end Sys2Proof.Machine
end

