-- ==== Sys2Proof/Laws/PerInstr.lean ====
section
/-! SUPPORT. Statements made for each instruction, one lemma per constructor. -/

/-- RoundTrip: the decoder gives a well-formed instruction back from its word, in its encoding space. -/
def Sys2Proof.Laws.RoundTrip.Statement (i : Sys2Proof.Instr) : Prop :=
  i.wf = true → Sys2Proof.decode i.space (Sys2Proof.encode i) = .ok i

namespace Sys2Proof.Laws.RoundTrip

open Sys2Proof

/-- Every 16-bit word fits the port's space. -/
theorem decode_port (w : Req) : decode .port w.toNat = .ok (decodePort w) := by
  have h := w.isLt
  simp [decode, Space.width, h]

theorem portWord_bit (op imm : Byte) (k : Nat) :
    (portWord op imm).getLsbD k = if k < 8 then imm.getLsbD k else op.getLsbD (k - 8) :=
  BitVec.getLsbD_append

theorem portWord_op (op imm : Byte) : (portWord op imm).extractLsb' 8 8 = op := by
  apply BitVec.eq_of_getLsbD_eq
  intro i hi
  rw [BitVec.getLsbD_extractLsb', portWord_bit]
  simp [hi]

theorem portWord_imm (op imm : Byte) : (portWord op imm).extractLsb' 0 8 = imm := by
  apply BitVec.eq_of_getLsbD_eq
  intro i hi
  rw [BitVec.getLsbD_extractLsb', portWord_bit]
  simp [hi]

theorem outEnq (imm : Byte) : Statement (.outEnq imm) := by
  intro _
  rw [encode, Instr.space, decode_port, decodePort, portWord_op, portWord_imm]
  rfl

theorem outClr : Statement .outClr := by unfold Statement; decide

theorem outEmpty : Statement .outEmpty := by unfold Statement; decide

theorem outFull : Statement .outFull := by unfold Statement; decide

theorem outPeek : Statement .outPeek := by unfold Statement; decide

theorem inEmpty : Statement .inEmpty := by unfold Statement; decide

theorem inFull : Statement .inFull := by unfold Statement; decide

theorem inPeek : Statement .inPeek := by unfold Statement; decide

theorem inDeq : Statement .inDeq := by unfold Statement; decide

theorem lerrRd : Statement .lerrRd := by unfold Statement; decide

theorem lerrClr : Statement .lerrClr := by unfold Statement; decide

theorem ticksRd : Statement .ticksRd := by unfold Statement; decide

theorem linesRd : Statement .linesRd := by unfold Statement; decide

theorem illegal (op : Byte) : Statement (.illegal op) := by
  revert op
  unfold Statement
  decide

theorem fall : Statement .fall := by unfold Statement; decide

theorem low : Statement .low := by unfold Statement; decide

theorem rise : Statement .rise := by unfold Statement; decide

theorem high : Statement .high := by unfold Statement; decide

theorem idle : Statement .idle := by unfold Statement; decide

theorem inhibited : Statement .inhibited := by unfold Statement; decide

theorem sendBit : Statement .sendBit := by unfold Statement; decide

theorem sendParity : Statement .sendParity := by unfold Statement; decide

theorem sendStopBit : Statement .sendStopBit := by unfold Statement; decide

theorem receiveBit : Statement .receiveBit := by unfold Statement; decide

theorem receiveParity : Statement .receiveParity := by unfold Statement; decide

theorem receiveAck : Statement .receiveAck := by unfold Statement; decide

theorem receiveEnd : Statement .receiveEnd := by unfold Statement; decide

theorem clkHold : Statement .clkHold := by unfold Statement; decide

theorem clkRel : Statement .clkRel := by unfold Statement; decide

theorem datHold : Statement .datHold := by unfold Statement; decide

theorem datRel : Statement .datRel := by unfold Statement; decide

theorem clkRd : Statement .clkRd := by unfold Statement; decide

theorem datRd : Statement .datRd := by unfold Statement; decide

theorem qenq (q : QSel) : Statement (.qenq q) := by
  cases q <;> (unfold Statement; decide)

theorem qdeq (q : QSel) : Statement (.qdeq q) := by
  cases q <;> (unfold Statement; decide)

theorem qunq (q : QSel) : Statement (.qunq q) := by
  cases q <;> (unfold Statement; decide)

theorem qclr (q : QSel) : Statement (.qclr q) := by
  cases q <;> (unfold Statement; decide)

theorem qempty (q : QSel) : Statement (.qempty q) := by
  cases q <;> (unfold Statement; decide)

theorem qfull (q : QSel) : Statement (.qfull q) := by
  cases q <;> (unfold Statement; decide)

theorem qpeek (q : QSel) : Statement (.qpeek q) := by
  cases q <;> (unfold Statement; decide)

theorem frameD2H (data : Byte) (parity : Bool) : Statement (.frameD2H data parity) := by
  revert data parity
  unfold Statement
  decide

theorem frameH2D (data : Byte) (parity : Bool) : Statement (.frameH2D data parity) := by
  revert data parity
  unfold Statement
  decide

theorem cmdReset : Statement .cmdReset := by unfold Statement; decide

theorem cmdResend : Statement .cmdResend := by unfold Statement; decide

theorem cmdReadId : Statement .cmdReadId := by unfold Statement; decide

theorem cmdSetTypematic : Statement .cmdSetTypematic := by unfold Statement; decide

theorem cmdSetLeds : Statement .cmdSetLeds := by unfold Statement; decide

theorem cmdEcho : Statement .cmdEcho := by unfold Statement; decide

theorem cmdGenericEF : Statement .cmdGenericEF := by unfold Statement; decide

theorem cmdGenericF0 : Statement .cmdGenericF0 := by unfold Statement; decide

theorem cmdGenericF1 : Statement .cmdGenericF1 := by unfold Statement; decide

theorem cmdGenericF4 : Statement .cmdGenericF4 := by unfold Statement; decide

theorem cmdGenericF5 : Statement .cmdGenericF5 := by unfold Statement; decide

theorem cmdGenericF6 : Statement .cmdGenericF6 := by unfold Statement; decide

theorem cmdGenericF7 : Statement .cmdGenericF7 := by unfold Statement; decide

theorem cmdGenericF8 : Statement .cmdGenericF8 := by unfold Statement; decide

theorem cmdGenericF9 : Statement .cmdGenericF9 := by unfold Statement; decide

theorem cmdGenericFA : Statement .cmdGenericFA := by unfold Statement; decide

theorem cmdGenericFB : Statement .cmdGenericFB := by unfold Statement; decide

theorem cmdGenericFC : Statement .cmdGenericFC := by unfold Statement; decide

theorem cmdGenericFD : Statement .cmdGenericFD := by unfold Statement; decide

theorem data007F (low : BitVec 7) : Statement (.data007F low) := by
  revert low
  unfold Statement
  decide

theorem data80BF (low : BitVec 6) : Statement (.data80BF low) := by
  revert low
  unfold Statement
  decide

theorem dataC0DF (low : BitVec 5) : Statement (.dataC0DF low) := by
  revert low
  unfold Statement
  decide

theorem dataE0E7 (low : BitVec 3) : Statement (.dataE0E7 low) := by
  revert low
  unfold Statement
  decide

theorem dataE8EB (low : BitVec 2) : Statement (.dataE8EB low) := by
  revert low
  unfold Statement
  decide

theorem dataECEC : Statement .dataECEC := by unfold Statement; decide

theorem sentinel : Statement .sentinel := by
  intro _
  have h := Config.rxErrByte.isLt
  simp [decode, Instr.space, encode, Space.width, decodeRxError, h]

theorem rspAck : Statement .rspAck := by unfold Statement; decide

theorem rspResend : Statement .rspResend := by unfold Statement; decide

theorem rspSelfTestPass : Statement .rspSelfTestPass := by unfold Statement; decide

theorem rspEcho : Statement .rspEcho := by unfold Statement; decide

theorem rspId1 : Statement .rspId1 := by unfold Statement; decide

theorem rspId2 : Statement .rspId2 := by unfold Statement; decide

theorem rspMake : Statement .rspMake := by unfold Statement; decide

theorem rspBreakPrefix : Statement .rspBreakPrefix := by unfold Statement; decide

end Sys2Proof.Laws.RoundTrip
end

