-- ==== Sys2Proof/Tests/Slice0.lean ====
section
/-! SUPPORT. The model's own tests. Every expected value is copied from the encodings of spec/30_encoding.md or the vectors
of spec/95_test_vectors.md (their numbers stand in the names: H5, O17, Q9, ...). The `witness_` theorems show that the
hypotheses of the obligation they name can be met together. -/
namespace Sys2Proof.Tests

open Sys2Proof Sys2Proof.Machine

/-! ### Well-formedness: each check refuses an ill-formed term -/

theorem test_wf_illegal : (Instr.illegal 0x01).wf = false ∧ (Instr.illegal 0x40).wf = false ∧ (Instr.illegal 0x06).wf = true := by
  decide
theorem test_wf_qunq : (Instr.qunq .inq).wf = false ∧ (Instr.qunq .outq).wf = true := by decide
theorem test_wf_qclr : (Instr.qclr .inq).wf = false ∧ (Instr.qclr .outq).wf = true := by decide
theorem test_wf_frameD2H : (Instr.frameD2H 0x29 true).wf = false ∧ (Instr.frameD2H 0x29 false).wf = true := by decide

/-! ### Decoding: words written out from the spec's tables -/

/-- The word of a space decodes to this instruction. -/
def decodesTo (sp : Space) (w : Nat) (i : Instr) : Bool :=
  match decode sp w with
  | .ok j => i == j
  | .error _ => false

/-- R103, R104: the request words of the port. -/
theorem test_decode_port_out :
    decodesTo .port 0x0129 (.outEnq 0x29) ∧ decodesTo .port 0x0200 .outClr ∧ decodesTo .port 0x02FF .outClr ∧
    decodesTo .port 0x0300 .outEmpty ∧ decodesTo .port 0x0400 .outFull ∧ decodesTo .port 0x0500 .outPeek := by decide
theorem test_decode_port_rest :
    decodesTo .port 0x1300 .inEmpty ∧ decodesTo .port 0x1400 .inFull ∧ decodesTo .port 0x1500 .inPeek ∧
    decodesTo .port 0x1600 .inDeq ∧ decodesTo .port 0x2000 .lerrRd ∧ decodesTo .port 0x2100 .lerrClr ∧
    decodesTo .port 0x3000 .ticksRd ∧ decodesTo .port 0x4000 .linesRd := by decide
theorem test_decode_port_illegal :
    decodesTo .port 0x0000 (.illegal 0x00) ∧ decodesTo .port 0x0600 (.illegal 0x06) ∧
    decodesTo .port 0x1100 (.illegal 0x11) ∧ decodesTo .port 0xFFFF (.illegal 0xFF) := by decide
/-- R108. -/
theorem test_decode_phase :
    decodesTo .phase 0 .fall ∧ decodesTo .phase 1 .low ∧ decodesTo .phase 2 .rise ∧ decodesTo .phase 3 .high := by decide
/-- R106. -/
theorem test_decode_state :
    decodesTo .state 0 .idle ∧ decodesTo .state 1 .inhibited ∧ decodesTo .state 2 .sendBit ∧
    decodesTo .state 3 .sendParity ∧ decodesTo .state 4 .sendStopBit ∧ decodesTo .state 5 .receiveBit ∧
    decodesTo .state 6 .receiveParity ∧ decodesTo .state 7 .receiveAck ∧ decodesTo .state 8 .receiveEnd := by decide
/-- R109. -/
theorem test_decode_line :
    decodesTo .line 0b000 .clkHold ∧ decodesTo .line 0b001 .clkRel ∧ decodesTo .line 0b010 .datHold ∧
    decodesTo .line 0b011 .datRel ∧ decodesTo .line 0b100 .clkRd ∧ decodesTo .line 0b110 .datRd := by decide
/-- R110: bit 3 is the queue. -/
theorem test_decode_queue :
    decodesTo .queue 0b0000 (.qenq .outq) ∧ decodesTo .queue 0b1000 (.qenq .inq) ∧
    decodesTo .queue 0b0001 (.qdeq .outq) ∧ decodesTo .queue 0b1001 (.qdeq .inq) ∧
    decodesTo .queue 0b0010 (.qunq .outq) ∧ decodesTo .queue 0b0011 (.qclr .outq) ∧
    decodesTo .queue 0b0100 (.qempty .outq) ∧ decodesTo .queue 0b1100 (.qempty .inq) ∧
    decodesTo .queue 0b1101 (.qfull .inq) ∧ decodesTo .queue 0b0110 (.qpeek .outq) := by decide
/-- SX1: 0x29 is `0,1,0,0,1,0,1,0,0,0,1` in time order, so the word is those bits read backwards; and section 2.1's 0xED,
`0 10110111 1 1`, with the host's stop bit 1 and the ACK 0 after it. -/
theorem test_decode_frames :
    decodesTo .frameD2H 0b10001010010 (.frameD2H 0x29 false) ∧
    decodesTo .frameH2D 0b011111011010 (.frameH2D 0xED true) := by decide
/-- R114, R289. -/
theorem test_decode_commands :
    decodesTo .link 0xFF .cmdReset ∧ decodesTo .link 0xFE .cmdResend ∧ decodesTo .link 0xF2 .cmdReadId ∧
    decodesTo .link 0xF3 .cmdSetTypematic ∧ decodesTo .link 0xED .cmdSetLeds ∧ decodesTo .link 0xEE .cmdEcho := by decide
theorem test_decode_generic_low :
    decodesTo .link 0xEF .cmdGenericEF ∧ decodesTo .link 0xF0 .cmdGenericF0 ∧ decodesTo .link 0xF1 .cmdGenericF1 ∧
    decodesTo .link 0xF4 .cmdGenericF4 ∧ decodesTo .link 0xF5 .cmdGenericF5 ∧ decodesTo .link 0xF6 .cmdGenericF6 ∧
    decodesTo .link 0xF7 .cmdGenericF7 := by decide
theorem test_decode_generic_high :
    decodesTo .link 0xF8 .cmdGenericF8 ∧ decodesTo .link 0xF9 .cmdGenericF9 ∧ decodesTo .link 0xFA .cmdGenericFA ∧
    decodesTo .link 0xFB .cmdGenericFB ∧ decodesTo .link 0xFC .cmdGenericFC ∧ decodesTo .link 0xFD .cmdGenericFD := by decide
/-- R290: the ranges below `CMD_MIN`, at their ends. -/
theorem test_decode_data :
    decodesTo .link 0x00 (.data007F 0) ∧ decodesTo .link 0x7F (.data007F 0x7F) ∧ decodesTo .link 0x80 (.data80BF 0) ∧
    decodesTo .link 0xBF (.data80BF 0x3F) ∧ decodesTo .link 0xC0 (.dataC0DF 0) ∧ decodesTo .link 0xDF (.dataC0DF 0x1F) ∧
    decodesTo .link 0xE0 (.dataE0E7 0) ∧ decodesTo .link 0xE7 (.dataE0E7 7) ∧ decodesTo .link 0xE8 (.dataE8EB 0) ∧
    decodesTo .link 0xEB (.dataE8EB 3) ∧ decodesTo .link 0xEC .dataECEC := by decide
/-- R281: the sentinel is the byte that equals the parameter, whatever its value. -/
theorem test_decode_sentinel : decode .rxError Config.rxErrByte.toNat = .ok .sentinel := Laws.RoundTrip.sentinel rfl
/-- R115. -/
theorem test_decode_response :
    decodesTo .response 0xFA .rspAck ∧ decodesTo .response 0xFE .rspResend ∧ decodesTo .response 0xAA .rspSelfTestPass ∧
    decodesTo .response 0xEE .rspEcho ∧ decodesTo .response 0xAB .rspId1 ∧ decodesTo .response 0x83 .rspId2 ∧
    decodesTo .response 0x29 .rspMake ∧ decodesTo .response 0xF0 .rspBreakPrefix := by decide
/-- R107, R109, R110, R111, R112: what is rejected, by name. -/
theorem test_decode_rejects :
    decode .state 9 = .error (.reservedState 9) ∧ decode .line 0b101 = .error (.reservedLine 0b101) ∧
    decode .queue 0b0111 = .error (.reservedQueue 0b0111) ∧ decode .queue 0b1010 = .error (.reservedQueue 0b1010) ∧
    decode .frameD2H 0b11001010010 = .error (.badFrameD2H 0b11001010010) ∧
    decode .frameH2D 0b111111011010 = .error (.badFrameH2D 0b111111011010) ∧
    decode .response 0x00 = .error (.notResponse 0x00) ∧ decode .port 0x10000 = .error (.tooWide .port 0x10000) := by
  refine ⟨?_, ?_, ?_, ?_, ?_, ?_, ?_, ?_⟩ <;> rfl

/-- R117: the assembler's own examples; `IMM` is 0x00 where no operand is written. The last line is the model's choice (log
entry 21). -/
theorem test_assemble :
    assembleLine "OUT.ENQ 0x29".toList = some 0x0129 ∧ assembleLine "IN.DEQ ; the oldest byte".toList = some 0x1600 ∧
    assembleLine "LERR.CLR".toList = some 0x2100 ∧ assembleLine "OUT.ENQ 41".toList = some 0x0129 ∧
    assembleLine "OUT.ENQ".toList = some 0x0100 ∧ assembleLine "OUT.ENQ 0xfA".toList = some 0x01FA ∧
    assembleLine "OUT.ENQ 4A".toList = none ∧ assembleLine "OUT.CLR 1".toList = none := by decide

/-! ### Small states -/

/-- A next state that satisfies a test. -/
def next (o : Outcome) (p : State → Bool) : Bool :=
  match o with
  | .next t => p t
  | _ => false

/-- A queue holding these bytes from slot 0 on. -/
def queueOf (bytes : List Byte) : Queue := bytes.foldl (fun q b => (q.enq b).2) Queue.reset

/-- Nine bytes (Q5). -/
def nine : List Byte := [1, 2, 3, 4, 5, 6, 7, 8, 9]

/-- The reset state with these queues. -/
def withQueues (out inn : List Byte) : State := { State.reset with outq := queueOf out, inq := queueOf inn }

/-- The reset state in a handler's state at a HIGH tick (section 3.2). -/
def atHigh (st : BitVec 4) (gen : Bool) (cnt : BitVec 4) (par : Bool) (sh : Byte) : State :=
  { State.reset with st := st, ph := 3, gen := gen, cnt := cnt, par := par, sh := sh }

/-- The reset state with an agent's step due. -/
def due (e : Event) (s : State) : State := { s with script := [.event e] }

/-! ### The port (section 3.4) -/

theorem test_outEnq_O1_O2 :
    next (exec (.outEnq 0x29) State.reset) (fun t => t.outq == queueOf [0x29] && t.resp == ⟨.ok, 0⟩) ∧
    next (exec (.outEnq 0x41) (withQueues nine [])) (fun t => t.outq == queueOf nine && t.resp == ⟨.full, 0⟩) := by decide
theorem test_outClr_O4 :
    next (exec .outClr { State.reset with outq := { slot := [], rd := 2, wr := 4 } })
      (fun t => t.outq.wr == 2 && t.outq.rd == 2 && t.resp == ⟨.ok, 0⟩) := by decide
theorem test_outEmpty_O6_O7 :
    next (exec .outEmpty State.reset) (fun t => t.resp == ⟨.ok, 1⟩) ∧
    next (exec .outEmpty (withQueues [0x29] [])) (fun t => t.resp == ⟨.ok, 0⟩) := by decide
theorem test_outFull_O8_O9 :
    next (exec .outFull (withQueues nine [])) (fun t => t.resp == ⟨.ok, 1⟩) ∧
    next (exec .outFull State.reset) (fun t => t.resp == ⟨.ok, 0⟩) := by decide
theorem test_outPeek_O10_O11 :
    next (exec .outPeek (withQueues [0xFA, 0xAA] [])) (fun t => t.resp == ⟨.ok, 0xFA⟩) ∧
    next (exec .outPeek State.reset) (fun t => t.resp == ⟨.empty, 0⟩) := by decide
theorem test_inEmpty_O12 : next (exec .inEmpty State.reset) (fun t => t.resp == ⟨.ok, 1⟩) := by decide
theorem test_inFull_O13_O14 :
    next (exec .inFull State.reset) (fun t => t.resp == ⟨.ok, 0⟩) ∧
    next (exec .inFull (withQueues [] nine)) (fun t => t.resp == ⟨.ok, 1⟩) := by decide
theorem test_inPeek_O15_O16 :
    next (exec .inPeek (withQueues [] [0xED])) (fun t => t.resp == ⟨.ok, 0xED⟩ && t.inq == queueOf [0xED]) ∧
    next (exec .inPeek State.reset) (fun t => t.resp == ⟨.empty, 0⟩) := by decide
theorem test_inDeq_O17_O18 :
    next (exec .inDeq (withQueues [] [0xED])) (fun t => t.resp == ⟨.ok, 0xED⟩ && t.inq.rd == 1) ∧
    next (exec .inDeq State.reset) (fun t => t.resp == ⟨.empty, 0⟩ && t.inq.rd == 0) := by decide
theorem test_lerrRd_O19 :
    next (exec .lerrRd { State.reset with lerr := true }) (fun t => t.resp == ⟨.ok, 1⟩ && t.lerr) := by decide
theorem test_lerrClr_O20 :
    next (exec .lerrClr { State.reset with lerr := true }) (fun t => t.resp == ⟨.ok, 0⟩ && !t.lerr) := by decide
theorem test_ticksRd_O23 :
    next (exec .ticksRd { State.reset with ticks := 0xFFFFFFFF }) (fun t => t.resp == ⟨.ok, 0xFFFFFFFF⟩) := by decide
theorem test_linesRd_O25_O26 :
    next (exec .linesRd { State.reset with hclk := false }) (fun t => t.resp == ⟨.ok, 2⟩) ∧
    next (exec .linesRd { State.reset with datOe := true }) (fun t => t.resp == ⟨.ok, 1⟩) := by decide
theorem test_illegal_O28 :
    next (step (due (.port 0x0600 true true) State.reset)) (fun t => t.resp == ⟨.illegal, 0⟩ && t.outq == Queue.reset) := by
  decide

/-! ### The phases and the handlers (section 3.2) -/

theorem test_fall_T1_T2 :
    next (exec .fall { State.reset with gen := true }) (fun t => t.clkOe && t.ph == 1 && !t.clk) ∧
    next (exec .fall State.reset) (fun t => !t.clkOe && t.ph == 1 && t.ticks == 1) := by decide
theorem test_low_T3 :
    next (exec .low { State.reset with ph := 1, gen := true, clkOe := true })
      (fun t => t.clkOe && t.ph == 2 && t.ticks == 1) := by decide
theorem test_rise_T4 :
    next (exec .rise { State.reset with ph := 2, gen := true, clkOe := true }) (fun t => !t.clkOe && t.ph == 3) := by decide
theorem test_high_T7 :
    next (exec .high { atHigh 0 false 0 false 0 with ticks := 0xFFFFFFFF }) (fun t => t.ticks == 0 && t.ph == 0) := by decide
theorem test_high_X10 : exec .high (atHigh 9 false 0 false 0) = .refused (.reservedState 9) := rfl

theorem test_idle_H2_H5 :
    next (exec .idle { withQueues [0x29] [] with hclk := false }) (fun t => t.st == 1 && t.outq.rd == 0) ∧
    next (exec .idle (withQueues [0x29] [])) (fun t =>
      t.st == 2 && t.sh == 0x29 && t.cnt == 8 && !t.par && t.datOe && t.gen && t.outq.rd == 1) := by decide
theorem test_idle_H3_H4 :
    next (exec .idle { withQueues [0x29] [] with hdat := false }) (fun t => t.st == 0 && !t.datOe && t.outq.rd == 0) ∧
    next (exec .idle { withQueues [0x29] [] with lerr := true }) (fun t => t.st == 0 && !t.datOe && t.outq.rd == 0) := by
  decide
theorem test_inhibited_H8 :
    next (exec .inhibited (atHigh 1 true 5 true 0x05)) (fun t => t.st == 0 && t.sh == 0 && t.cnt == 0 && !t.par && t.gen) := by
  decide
theorem test_inhibited_H9 :
    next (exec .inhibited { atHigh 1 false 0 false 0 with hdat := false }) (fun t => t.st == 5 && t.cnt == 8 && t.gen) := by
  decide
theorem test_sendBit_H10_H12 :
    next (exec .sendBit { atHigh 2 true 8 false 0x29 with datOe := true })
      (fun t => !t.datOe && t.par && t.sh == 0x14 && t.cnt == 7 && t.st == 2) ∧
    next (exec .sendBit (atHigh 2 true 1 true 0x00)) (fun t => t.datOe && t.cnt == 0 && t.st == 3) := by decide
theorem test_sendBit_H13 :
    next (exec .sendBit { atHigh 2 true 5 true 0x05 with datOe := true, hclk := false })
      (fun t => !t.datOe && t.lerr && t.st == 1 && t.sh == 0x05 && t.cnt == 5 && t.par && t.gen) := by decide
theorem test_sendParity_H14_H15 :
    next (exec .sendParity (atHigh 3 true 0 false 0)) (fun t => t.st == 4 && !t.datOe) ∧
    next (exec .sendParity { atHigh 3 true 0 true 0 with datOe := true }) (fun t => t.st == 4 && t.datOe) := by decide
theorem test_sendParity_H16 :
    next (exec .sendParity { atHigh 3 true 0 true 0 with datOe := true, hclk := false })
      (fun t => t.st == 1 && t.lerr && !t.datOe) := by decide
theorem test_sendStopBit_H18 :
    next (exec .sendStopBit { atHigh 4 true 0 true 0 with datOe := true, hclk := false })
      (fun t => t.st == 0 && !t.datOe && t.gen && !t.lerr) := by decide
theorem test_receiveBit_H20_H21 :
    next (exec .receiveBit (atHigh 5 true 1 false 0xDA)) (fun t => t.sh == 0xED && t.par && t.cnt == 0 && t.st == 6) ∧
    next (exec .receiveBit { atHigh 5 true 8 false 0x00 with hclk := false })
      (fun t => t.sh == 0x80 && t.par && t.cnt == 7 && t.st == 5) := by decide
theorem test_receiveParity_H22 :
    next (exec .receiveParity (atHigh 6 true 0 false 0xED)) (fun t => t.par && t.st == 7) := by decide
theorem test_receiveAck_H24_H26 :
    next (exec .receiveAck (atHigh 7 true 0 true 0xED)) (fun t => t.datOe && t.inq == queueOf [0xED] && t.st == 8) ∧
    next (exec .receiveAck (atHigh 7 true 0 true 0xFE))
      (fun t => t.datOe && t.outq.rd == 9 && t.outq.peek == (.ok, 0x00) && t.inq == Queue.reset) := by decide
theorem test_receiveAck_H27_H28 :
    next (exec .receiveAck { atHigh 7 true 0 true 0xFE with outq := queueOf nine })
      (fun t => t.datOe && t.st == 8 && t.outq == queueOf nine) ∧
    next (exec .receiveAck { atHigh 7 true 0 true 0x41 with inq := queueOf nine })
      (fun t => t.datOe && t.st == 8 && t.inq == queueOf nine) := by decide
/-- H25, H29: a bad frame brings the sentinel, whatever its value. -/
theorem test_receiveAck_H25_H29 :
    (∃ t, exec .receiveAck (atHigh 7 true 0 false 0xFE) = .next t ∧ t.inq = (Queue.reset.enq Config.rxErrByte).2 ∧
      t.outq = Queue.reset ∧ t.st = 8) := ⟨_, rfl, rfl, rfl, rfl⟩
theorem test_receiveEnd_H31_H32 :
    next (exec .receiveEnd { atHigh 8 true 0 false 0 with datOe := true, outq := queueOf [0xFA] })
      (fun t => t.st == 2 && t.sh == 0xFA && t.cnt == 8 && t.outq.rd == 1 && t.datOe && t.gen) ∧
    next (exec .receiveEnd { atHigh 8 true 0 false 0 with datOe := true, outq := queueOf [0xFA], hclk := false })
      (fun t => t.st == 1 && !t.datOe && !t.gen && t.outq.rd == 0) := by decide

/-! ### The lines (section 3.3) -/

theorem test_clkHold_B1 : next (exec .clkHold State.reset) (fun t => t.clkOe && !t.clk && t.dat) := by decide
theorem test_clkRel_B2_B3 :
    next (exec .clkRel { State.reset with clkOe := true, hclk := false }) (fun t => !t.clkOe && !t.clk) ∧
    next (exec .clkRel { State.reset with clkOe := true }) (fun t => !t.clkOe && t.clk) := by decide
theorem test_datHold_B4 : next (exec .datHold State.reset) (fun t => t.datOe && !t.dat && t.clk) := by decide
theorem test_datRel_B5 : next (exec .datRel { State.reset with datOe := true }) (fun t => !t.datOe && t.dat) := by decide
theorem test_clkRd_B7_B9 :
    next (exec .clkRd { State.reset with hclk := false }) (fun t => t.resp == ⟨.ok, 0⟩) ∧
    next (exec .clkRd { State.reset with datOe := true }) (fun t => t.resp == ⟨.ok, 1⟩) := by decide
theorem test_datRd_B8 : next (exec .datRd State.reset) (fun t => t.resp == ⟨.ok, 1⟩) := by decide

/-! ### The queue micro-operations (section 3.1) -/

theorem test_qenq_Q1_Q16 :
    next (exec (.qenq .outq) { State.reset with req := 0x0129 }) (fun t => t.outq == queueOf [0x29] && t.resp == ⟨.ok, 0⟩) ∧
    next (exec (.qenq .inq) { State.reset with sh := 0x41, inq := { slot := [], rd := 8, wr := 9 } })
      (fun t => t.inq == { slot := [(9, 0x41)], rd := 8, wr := 0 }) := by decide
theorem test_qdeq_Q2_Q15 :
    next (exec (.qdeq .outq) (withQueues [0x29] [])) (fun t => t.resp == ⟨.ok, 0x29⟩ && t.outq.rd == 1) ∧
    next (exec (.qdeq .inq) { State.reset with inq := { slot := [(9, 0x41)], rd := 9, wr := 0 } })
      (fun t => t.resp == ⟨.ok, 0x41⟩ && t.inq.rd == 0) := by decide
theorem test_qunq_Q8_Q9 :
    next (exec (.qunq .outq) { State.reset with outq := { slot := [], rd := 1, wr := 0 } })
      (fun t => t.resp == ⟨.full, 0⟩ && t.outq.rd == 1) ∧
    next (exec (.qunq .outq) State.reset) (fun t => t.resp == ⟨.ok, 0⟩ && t.outq.rd == 9) := by decide
theorem test_qclr_Q11 :
    next (exec (.qclr .outq) { State.reset with outq := { slot := [(3, 7)], rd := 3, wr := 6 } })
      (fun t => t.outq == { slot := [(3, 7)], rd := 3, wr := 3 } && t.resp == ⟨.ok, 0⟩) := by decide
theorem test_qempty_Q13_Q14 :
    next (exec (.qempty .inq) { State.reset with inq := { slot := [], rd := 4, wr := 4 } }) (fun t => t.resp == ⟨.ok, 1⟩) ∧
    next (exec (.qempty .outq) { State.reset with outq := { slot := [], rd := 7, wr := 6 } })
      (fun t => t.resp == ⟨.ok, 0⟩) := by decide
theorem test_qfull_Q13_Q14 :
    next (exec (.qfull .inq) { State.reset with inq := { slot := [], rd := 4, wr := 4 } }) (fun t => t.resp == ⟨.ok, 0⟩) ∧
    next (exec (.qfull .outq) { State.reset with outq := { slot := [], rd := 7, wr := 6 } })
      (fun t => t.resp == ⟨.ok, 1⟩) := by decide
theorem test_qpeek_Q12_Q18 :
    next (exec (.qpeek .outq) { State.reset with outq := { slot := [(2, 0xAA)], rd := 2, wr := 3 } })
      (fun t => t.resp == ⟨.ok, 0xAA⟩ && t.outq.rd == 2) ∧
    next (exec (.qpeek .inq) State.reset) (fun t => t.resp == ⟨.empty, 0⟩) := by decide

/-! ### The frames: programs P1, P2 and P7 -/

theorem test_frameD2H_P1 :
    next (exec (.frameD2H 0x29 false) (withQueues [0x29] [])) (fun t =>
      t.wire == [false, true, false, false, true, false, true, false, false, false, true] && t.resp == ⟨.ok, 1⟩ &&
      t.ticks == 48 && t.st == 0 && !t.gen && !t.clkOe && !t.datOe && t.outq.rd == 1 && t.outq.wr == 1) := by decide
theorem test_frameH2D_P2 :
    next (exec (.frameH2D 0xED true) State.reset) (fun t =>
      t.ticks == 56 && t.st == 0 && !t.gen && !t.datOe && t.inq == queueOf [0xED] && t.resp == ⟨.ok, 1⟩ && t.hclk && t.hdat) := by
  decide
/-- P7 up to tick 56: a Resend before anything was sent starts a frame of 0x00. -/
theorem test_frameH2D_P7 :
    next (exec (.frameH2D 0xFE false) State.reset) (fun t =>
      t.ticks == 56 && t.st == 2 && t.sh == 0x00 && t.outq.rd == 0 && t.inq == Queue.reset) := by decide

/-! ### The link bytes (section 3.5) -/

/-- The bytes in `OUTQ` once the foreground has taken `n` steps of its own, after this instruction. -/
def afterSteps (i : Instr) (n : Nat) (s : State) : List Byte :=
  match n with
  | 0 => match exec i s with
    | .next t => t.outq.contents
    | _ => []
  | n + 1 => match exec i s with
    | .next t => match (List.range (n + 1)).foldl (fun o _ => andThen o (foregroundStep false)) (.next t) with
      | .next u => u.outq.contents
      | _ => []
    | _ => []

theorem test_cmdReset_L1 : afterSteps .cmdReset 3 (withQueues [0xF0, 0x29] []) = [0xFA, 0xAA] := by decide
theorem test_cmdReadId_L2 : afterSteps .cmdReadId 3 State.reset = [0xAB, 0x83] := by decide
theorem test_cmdEcho_L3 : afterSteps .cmdEcho 2 (withQueues [0xF0, 0x29] []) = [0xEE] ∧
    afterSteps .cmdEcho 1 (withQueues [0xF0, 0x29] []) = [] := by decide
theorem test_cmdSetTypematic_L4 : afterSteps .cmdSetTypematic 2 State.reset = [0xFA] ∧
    next (exec .cmdSetTypematic State.reset) (fun t => t.fg.todo == [.request 0x0200, .respond 0xFA, .waitStart]) := by decide
theorem test_cmdSetLeds_L5 :
    next (exec .cmdSetLeds State.reset) (fun t => t.fg.todo == [.request 0x0200, .respond 0xFA, .waitStart]) := by decide
/-- SX5: the byte sent last is the front again. -/
theorem test_cmdResend_SX5 :
    next (exec .cmdResend { State.reset with outq := { slot := [(0, 0x29)], rd := 1, wr := 1 } })
      (fun t => t.outq.peek == (.ok, 0x29) && t.inq == Queue.reset) := by decide
theorem test_generic_L6_L7 :
    [Instr.cmdGenericEF, .cmdGenericF0, .cmdGenericF1, .cmdGenericF4, .cmdGenericF5, .cmdGenericF6, .cmdGenericF7,
      .cmdGenericF8, .cmdGenericF9, .cmdGenericFA, .cmdGenericFB, .cmdGenericFC, .cmdGenericFD].all
        (fun i => afterSteps i 2 (withQueues [0x29] []) == [0xFA]) = true := by decide
/-- L8: no wait, so a data byte is dropped. -/
theorem test_data_L8 :
    [Instr.data007F 2, .data80BF 2, .dataC0DF 2, .dataE0E7 2, .dataE8EB 2, .dataECEC].all
        (fun i => next (exec i (withQueues [0x29] [])) (fun t => t == withQueues [0x29] [])) = true := by decide
/-- L10: in the wait, a data byte ends it, and nothing is sent. -/
theorem test_data_L10 :
    next (exec (.data007F 2) { withQueues [0xFA] [] with fg := { Foreground.reset with waiting := true, todo := [.waitTake] } })
      (fun t => !t.fg.waiting && t.fg.todo == [] && t.outq == queueOf [0xFA]) := by decide
/-- L9, L11: the sentinel is answered with 0xFE behind what is queued, and a wait goes on. -/
theorem test_sentinel_L9_L11 : afterSteps .sentinel 1 (withQueues [0x29] []) = [0x29, 0xFE] ∧
    next (exec .sentinel { State.reset with fg := { Foreground.reset with waiting := true, todo := [.waitTake] } })
      (fun t => t.fg.waiting && t.fg.todo == [.respond 0xFE, .waitTake]) := by decide
theorem test_responses :
    next (exec .rspAck State.reset) (fun t => t.outq == queueOf [0xFA]) ∧
    next (exec .rspResend State.reset) (fun t => t.outq == queueOf [0xFE]) ∧
    next (exec .rspSelfTestPass State.reset) (fun t => t.outq == queueOf [0xAA]) ∧
    next (exec .rspEcho State.reset) (fun t => t.outq == queueOf [0xEE]) ∧
    next (exec .rspId1 State.reset) (fun t => t.outq == queueOf [0xAB]) ∧
    next (exec .rspId2 State.reset) (fun t => t.outq == queueOf [0x83]) := by decide
/-- E1: the make, and the break that follows it. -/
theorem test_rspMake_E1 : next (exec .rspMake State.reset) (fun t => t.outq == queueOf [0x29] && t.fg.keys == [0x29]) := by
  decide
theorem test_rspBreakPrefix_E1 : afterSteps .rspBreakPrefix 1 (withQueues [0x29] []) = [0x29, 0xF0, 0x29] := by decide

/-! ### The step of each agent (section 3.7, and the foreground) -/

/-- R6: the host holds the clock at the first HIGH tick. -/
theorem test_tick_R6 :
    next (step (due (.tick false true) { State.reset with ph := 3, ticks := 3 })) (fun t => t.st == 1 && t.ticks == 4) := by
  decide
/-- R1: reset, from an engine in the middle of a frame. -/
theorem test_reset_R1 :
    next (step (due .reset { atHigh 2 true 5 true 0x05 with lerr := true, outq := queueOf [0x29] }))
      (fun t => t == State.reset) := by decide
/-- E2, E3: a trigger is dropped while something is pending. -/
theorem test_foreground_E2_E3 :
    next (foregroundStep false { withQueues [] [0xED] with fg := { Foreground.reset with todo := [.checkInbound] } })
      (fun t => t.fg.todo == []) ∧
    next (foregroundStep false { withQueues [0xFA] [] with fg := { Foreground.reset with todo := [.checkOutbound] } })
      (fun t => t.fg.todo == []) := by decide
/-- P4's recovery: the key byte is on record, so the break is queued between the clears. -/
theorem test_foreground_P4 :
    next (foregroundStep false { State.reset with lerr := true, fg := { Foreground.reset with keys := [0x29] } })
      (fun t => t.fg.todo == [.request 0x0200, .respond 0xF0, .request 0x2100, .takeByte, .pollSource]) := by decide
/-- K5's first three events, one tick apart: the third raises the trigger. -/
theorem test_foreground_K5 :
    next (foregroundStep true { State.reset with fg := { Foreground.reset with todo := [.pollSource] } })
      (fun t => t.fg.count == 1 && t.fg.todo == []) := by decide
theorem test_withFetchWord :
    next (step (State.reset.withFetchWord 16 0x0129)) (fun t => t.outq == queueOf [0x29]) ∧
    next (step (State.reset.withFetchWord 12 0b011111011010)) (fun t => t.inq == queueOf [0xED]) ∧
    next (step (State.reset.withFetchWord 8 0xFA)) (fun t => t.fg.todo == [.request 0x0200, .respond 0xFA]) ∧
    next (step (State.reset.withFetchWord 8 0x08)) (fun t => t.st == 0 && t.ph == 0) := by decide

/-! ### Witnesses: states that meet the hypotheses of the obligations, a clause each -/

theorem witness_DecodeGivesBackEveryEncodedInstruction : (Instr.frameD2H 0x29 false).wf = true ∧ (Instr.qunq .outq).wf = true := by
  decide
theorem witness_DecodedWordsHaveOneMeaning :
    decode .port 0x13FF = .ok .inEmpty ∧ decode .queue 0b1110 = .ok (.qpeek .inq) := ⟨rfl, rfl⟩
theorem witness_PortDecoderFollowsTheOpMap :
    ∀ op ∈ [(0x00 : Byte), 0x06, 0x12, 0x17, 0x41, 0xFF],
      op ∉ [(0x01 : Byte), 0x02, 0x03, 0x04, 0x05, 0x13, 0x14, 0x15, 0x16, 0x20, 0x21, 0x30, 0x40] := by decide
theorem witness_IllegalRequestsChangeNothing :
    (0x06 : Byte) ∉ [(0x01 : Byte), 0x02, 0x03, 0x04, 0x05, 0x13, 0x14, 0x15, 0x16, 0x20, 0x21, 0x30, 0x40] := by decide

/-- A state with a word due. -/
def dueWord (sp : Space) (w : Nat) : State := { State.reset with script := [.word sp w] }

theorem witness_ReservedCodesAreRefused :
    9 ≤ (9 : BitVec 4).toNat ∧ 9 ≤ (15 : BitVec 4).toNat ∧ (dueWord .state 9).script = .word .state 9 :: [] ∧
    decode .state 9 = .error (.reservedState 9) := ⟨by decide, by decide, rfl, rfl⟩
theorem witness_StepRunsTheInstructionThatIsDue :
    (due (.tick true false) State.reset).script = .event (.tick true false) :: [] ∧
    (due (.port 0x0129 true true) State.reset).script = .event (.port 0x0129 true true) :: [] ∧
    (dueWord .line 6).script = .word .line 6 :: [] ∧ decode .line 6 = .ok .datRd ∧
    (due (.foreground true) State.reset).script = .event (.foreground true) :: [] ∧ State.reset.script = [] :=
  ⟨rfl, rfl, rfl, rfl, rfl, rfl⟩
theorem witness_ResetSetsEveryField : (due .reset (atHigh 2 true 5 true 0x05)).script = .event .reset :: [] := rfl

/-- An `OUTQ` and an `INQ` with eight bytes each, so not full, and with nine bytes, so full. -/
def eight : State := withQueues [1, 2, 3, 4, 5, 6, 7, 8] [1, 2, 3, 4, 5, 6, 7, 8]
def fullQueues : State := withQueues nine nine

theorem witness_OutEnqAppendsOrReportsFull :
    (eight.outq.wr - eight.outq.rd).val ≠ 9 ∧ (fullQueues.outq.wr - fullQueues.outq.rd).val = 9 := by decide
theorem witness_PeeksAnswerTheFront :
    eight.outq.rd ≠ eight.outq.wr ∧ State.reset.outq.rd = State.reset.outq.wr ∧ eight.inq.rd ≠ eight.inq.wr ∧
    State.reset.inq.rd = State.reset.inq.wr := by decide
theorem witness_InDeqTakesTheFront : eight.inq.rd ≠ eight.inq.wr ∧ State.reset.inq.rd = State.reset.inq.wr := by decide
theorem witness_PortTransactionsKeepToTheirFields :
    (due (.port 0x2100 true true) State.reset).script = .event (.port 0x2100 true true) :: [] ∧
    (0x2100 : Req).toNat / 256 ≠ 0x01 ∧ (0x2100 : Req).toNat / 256 ≠ 0x02 ∧ (0x2100 : Req).toNat / 256 ≠ 0x16 :=
  ⟨rfl, by decide, by decide, by decide⟩
/-- Two states that differ in the engine alone. -/
theorem witness_PortAnswersHideTheEngine :
    ∃ s s' t t' : State, s.st ≠ s'.st ∧ s.lerr = s'.lerr ∧ s.ticks = s'.ticks ∧ s.outq = s'.outq ∧ s.inq = s'.inq ∧
      (!s.clkOe && s.hclk) = (!s'.clkOe && s'.hclk) ∧ (!s.datOe && s.hdat) = (!s'.datOe && s'.hdat) ∧
      exec (decodePort 0x4000) s = .next t ∧ exec (decodePort 0x4000) s' = .next t' :=
  ⟨State.reset, atHigh 2 true 5 true 0x05, _, _, by decide, rfl, rfl, rfl, rfl, rfl, rfl, rfl, rfl⟩

theorem witness_HighRunsTheHandlerOfST :
    (atHigh 8 true 0 false 0).st = Handler.receiveEnd.code ∧ (atHigh 8 true 0 false 0).st.toNat ≤ 8 ∧
    9 ≤ (atHigh 9 true 0 false 0).st.toNat ∧ 9 ≤ (atHigh 15 true 0 false 0).st.toNat := by decide
theorem witness_EveryTickAdvancesPhaseAndCounter :
    (∃ t, exec (decodePhase (0 : BitVec 2)) { State.reset with hclk := true, hdat := false } = .next t) ∧
    ∃ t, exec (decodePhase (atHigh 0 false 0 false 0).ph) { atHigh 0 false 0 false 0 with hclk := false, hdat := true } = .next t :=
  ⟨⟨_, rfl⟩, ⟨_, rfl⟩⟩
theorem witness_IdleDecidesAsTheRuleSays :
    (let s : State := { State.reset with hclk := false }
     s.hclk = false) ∧
    (let s := withQueues [0x29] []
     s.hclk = true ∧ s.datOe = false ∧ s.hdat = true ∧ s.outq.rd ≠ s.outq.wr ∧ s.lerr = false) ∧
    (let s : State := { State.reset with lerr := true, hdat := false }
     s.hclk = true ∧ (s.datOe = true ∨ s.hdat = false ∨ s.outq.rd = s.outq.wr ∨ s.lerr = true)) := by decide
theorem witness_InhibitedWaitsForTheClock :
    (let s : State := { State.reset with hclk := false }
     s.clkOe = true ∨ s.hclk = false) ∧
    (let s := State.reset
     s.clkOe = false ∧ s.hclk = true ∧ s.datOe = false ∧ s.hdat = true) ∧
    (let s : State := { State.reset with hdat := false }
     s.clkOe = false ∧ s.hclk = true ∧ (s.datOe = true ∨ s.hdat = false)) := by decide
theorem witness_SendBitShiftsOrYields :
    (let s : State := { atHigh 2 true 1 true 0 with hclk := false }
     s.clkOe = true ∨ s.hclk = false) ∧
    (let s := atHigh 2 true 1 true 0
     s.clkOe = false ∧ s.hclk = true ∧ s.cnt ≠ 0) := by decide
theorem witness_SendParityAndStopBit :
    (let s : State := { atHigh 3 true 0 true 0 with hclk := false }
     s.clkOe = true ∨ s.hclk = false) ∧
    (let s := atHigh 3 true 0 true 0
     s.clkOe = false ∧ s.hclk = true) := by decide
theorem witness_ReceiveBitAndParity :
    (let s := atHigh 5 true 8 false 0
     true = (!s.datOe && s.hdat) ∧ s.cnt ≠ 0) ∧
    (let s : State := { atHigh 5 true 1 false 0 with hdat := false }
     false = (!s.datOe && s.hdat) ∧ s.cnt ≠ 0) := by decide
theorem witness_ReceiveAckDelivers :
    (let s : State := { atHigh 7 true 0 true 0 with hdat := false }
     s.datOe = true ∨ s.hdat = false) ∧
    (let s := atHigh 7 true 0 true 0xFE
     s.datOe = false ∧ s.hdat = true ∧ s.par = true ∧ s.sh = 0xFE ∧ (s.outq.wr - s.outq.rd).val ≠ 9) ∧
    (let s : State := { atHigh 7 true 0 true 0xFE with outq := queueOf nine }
     s.datOe = false ∧ s.hdat = true ∧ s.par = true ∧ s.sh = 0xFE ∧ (s.outq.wr - s.outq.rd).val = 9) ∧
    (let s : State := { atHigh 7 true 0 true 0xFF with inq := queueOf [1, 2, 3, 4, 5, 6, 7, 8] }
     s.datOe = false ∧ s.hdat = true ∧ s.par = true ∧ s.sh ≠ 0xFE ∧ (s.inq.wr - s.inq.rd).val ≠ 9) := by decide
theorem witness_ReceiveAckDelivers_full_or_bad :
    (let s : State := { atHigh 7 true 0 true 0xFD with inq := queueOf nine }
     s.datOe = false ∧ s.hdat = true ∧ s.par = true ∧ s.sh ≠ 0xFE ∧ (s.inq.wr - s.inq.rd).val = 9) ∧
    (let s := atHigh 7 true 0 false 0xFE
     s.datOe = false ∧ s.hdat = true ∧ s.par = false ∧ (s.inq.wr - s.inq.rd).val ≠ 9) ∧
    (let s : State := { atHigh 7 true 0 false 0 with inq := queueOf nine }
     s.datOe = false ∧ s.hdat = true ∧ s.par = false ∧ (s.inq.wr - s.inq.rd).val = 9) := by decide
/-- Every one of the nine states runs at a HIGH tick, with the clock high and low; and the other phases run. -/
theorem witness_EngineFollowsTheNextStateTable :
    (∀ st ∈ [(0 : BitVec 4), 1, 2, 3, 4, 5, 6, 7, 8], ∀ c d : Bool,
      let s := atHigh st true 3 true 0
      s.ph = 3 ∧ s.st = st ∧ c = (!s.clkOe && c) ∧
        next (exec (decodePhase s.ph) { s with hclk := c, hdat := d }) (fun _ => true) = true) ∧
    (∃ t, State.reset.ph ≠ 3 ∧ true = (!State.reset.clkOe && true) ∧
      exec (decodePhase State.reset.ph) { State.reset with hclk := true, hdat := true } = .next t) :=
  ⟨by decide, ⟨_, by decide, rfl, rfl⟩⟩
theorem witness_LinesMatterOnlyAtHighTicks : ({ State.reset with ph := 2, gen := true, clkOe := true } : State).ph ≠ 3 := by decide
theorem witness_TicksKeepToTheirFields :
    ∃ t, (due (.tick true true) (atHigh 7 true 0 true 0x41)).script = .event (.tick true true) :: [] ∧
      step (due (.tick true true) (atHigh 7 true 0 true 0x41)) = .next t := ⟨_, rfl, rfl⟩
theorem witness_LinkErrorBlocksEverySend :
    ∃ t, let s : State := { atHigh 0 true 0 false 0 with lerr := true, outq := queueOf [0x29] }
      s.lerr = true ∧ s.st ≠ 2 ∧ exec (decodePhase s.ph) { s with hclk := true, hdat := true } = .next t :=
  ⟨_, rfl, by decide, rfl⟩
theorem witness_OnlyATakeoverSetsLinkError :
    ∃ t, let s := atHigh 2 true 5 true 0x05
      s.lerr = false ∧ exec (decodePhase s.ph) { s with hclk := false, hdat := true } = .next t ∧ t.lerr = true :=
  ⟨_, rfl, rfl, rfl⟩

theorem witness_LineLevelsAreWiredAnd :
    (let s : State := { State.reset with clkOe := true, datOe := true }
     s.clkOe = true ∧ s.datOe = true) ∧ State.reset.clkOe = false ∧ State.reset.datOe = false := by decide
theorem witness_EnqueueWritesOneSlot :
    (queueOf nine).slot.wf = true ∧ ((queueOf nine).wr - (queueOf nine).rd).val = 9 ∧
    Queue.reset.slot.wf = true ∧ (Queue.reset.wr - Queue.reset.rd).val ≠ 9 ∧ (9 : Cursor) ≠ Queue.reset.wr := by decide
theorem witness_QueueMicroOperationsAct :
    (0x29 : Byte) = ({ State.reset with req := 0x0129 } : State).req.setWidth 8 ∧ (0 : Byte) = State.reset.sh ∧
    eight.outq.rd ≠ eight.outq.wr ∧ eight.inq.rd ≠ eight.inq.wr ∧ State.reset.outq.rd = State.reset.outq.wr ∧
    State.reset.inq.rd = State.reset.inq.wr ∧ (eight.outq.wr - eight.outq.rd).val ≠ 9 ∧
    (fullQueues.outq.wr - fullQueues.outq.rd).val = 9 := by decide
theorem witness_QueueMicroReadsAnswer :
    (eight.inq = match QSel.inq with
      | .outq => eight.outq
      | .inq => eight.inq) ∧ eight.inq.rd ≠ eight.inq.wr ∧ State.reset.outq.rd = State.reset.outq.wr := by decide
/-- The one byte of a queue, with the cursor at the wrap (Q15). -/
def wrapped : Queue := { slot := [(9, 0x41)], rd := 9, wr := 0 }
theorem witness_UnqueueAfterDequeueRestores : wrapped.rd ≠ wrapped.wr := by decide
theorem witness_ResendFindsTheLastByte :
    wrapped.rd ≠ wrapped.wr ∧ (Queue.fillAndClear [some 1, none, some 2] wrapped.deq.2.2).count ≠ 9 := by decide
theorem witness_QueuesAreFifo : wrapped.slot.wf = true ∧
    (Queue.runOps [some 1, none, none, none, some 2] wrapped).1 = [1, 2] := by decide
theorem witness_StoresTouchOneSlot :
    (∃ t, exec .rspAck State.reset = .next t ∧ (1 : Cursor) ≠ State.reset.outq.wr) ∧
    (∃ t, exec (.outEnq 0) State.reset = .next t) ∧
    ∃ t, exec .receiveAck (atHigh 7 true 0 true 0x41) = .next t ∧ (9 : Cursor) ≠ State.reset.inq.wr :=
  ⟨⟨_, rfl, by decide⟩, ⟨_, rfl⟩, ⟨_, rfl, by decide⟩⟩
theorem witness_OtherInstructionsStoreNothing :
    (∃ t, exec .idle (withQueues [0x29] []) = .next t) ∧
    Instr.idle ∉ [Instr.qenq .outq, .qenq .inq, .rspAck, .rspResend, .rspSelfTestPass, .rspEcho, .rspId1, .rspId2, .rspMake,
      .rspBreakPrefix, .receiveAck, .high] ∧ (∀ b, Instr.idle ≠ .outEnq b) ∧ (∀ b p, Instr.idle ≠ .frameD2H b p) ∧
    (∀ b p, Instr.idle ≠ .frameH2D b p) :=
  ⟨⟨_, rfl⟩, by decide, nofun, nofun, nofun⟩
theorem witness_OtherInstructionsStoreNothing_frames :
    (∃ t, exec .high (atHigh 7 true 0 true 0x41) = .next t ∧ (9 : Cursor) ≠ (atHigh 7 true 0 true 0x41).inq.wr) ∧
    next (exec (.frameD2H 0x29 false) (withQueues [0x29] [])) (fun _ => true) ∧
    next (exec (.frameH2D 0xED true) State.reset) (fun _ => true) :=
  ⟨⟨_, rfl, by decide⟩, by decide, by decide⟩

theorem witness_SendPutsTheFrameOnTheWire :
    let s := withQueues [0x29] []
    false = (popcount 0x29 % 2 == 0) ∧ s.st = 0 ∧ s.gen = false ∧ s.clkOe = false ∧ s.datOe = false ∧ s.lerr = false ∧
      s.hclk = true ∧ s.hdat = true ∧ s.outq.rd ≠ s.outq.wr ∧ s.outq.read s.outq.rd = 0x29 ∧ s.outq.rd + 1 = s.outq.wr := by
  decide
/-- With a second byte queued. -/
theorem witness_SendPutsTheFrameOnTheWire_next :
    let s := withQueues [0x29, 0xF0] []
    false = (popcount 0x29 % 2 == 0) ∧ s.st = 0 ∧ s.gen = false ∧ s.clkOe = false ∧ s.datOe = false ∧ s.lerr = false ∧
      s.hclk = true ∧ s.hdat = true ∧ s.outq.rd ≠ s.outq.wr ∧ s.outq.read s.outq.rd = 0x29 ∧ s.outq.rd + 1 ≠ s.outq.wr := by
  decide
theorem witness_ReceiveDeliversTheFrame :
    (State.reset.st = 0 ∧ State.reset.gen = false ∧ State.reset.clkOe = false ∧ State.reset.datOe = false) ∧
    ((popcount 0xED + true.toNat) % 2 = 1 ∧ (0xED : Byte) ≠ 0xFE) ∧ (popcount 0xFE + false.toNat) % 2 = 1 ∧
    (popcount 0xFE + true.toNat) % 2 = 0 := by decide
/-- The queue a frame leaves: emptied by no Resend; one byte, after a Resend; and full, where a Resend has no effect. -/
theorem witness_ReceiveDeliversTheFrame_queue :
    (Queue.reset.rd = Queue.reset.wr ∧ State.reset.lerr = false) ∧
    Queue.reset.unq.2.rd ≠ Queue.reset.unq.2.wr ∧ (queueOf nine).unq.2 = queueOf nine ∧ (queueOf nine).rd ≠ (queueOf nine).wr := by
  decide

/-- The reset step on a foreground in the middle of its loop. -/
theorem witness_ResetIsLegal :
    let s := due .reset { State.reset with fg := { Foreground.reset with todo := [.waitTake], waiting := true, keys := [0x29] } }
    s.script = .event .reset :: [] ∧ s.fg ≠ Foreground.reset := by decide

/-- A state in the middle of a send is legal. -/
theorem witness_FramesCompleteInLegalStates : (atHigh 2 true 8 false 0x29).Legal where
  codes := by unfold State.codesLegal; decide
  idle := by unfold State.idleClean; decide
  clock := by unfold State.clockHeldInPulse; decide
  count := by unfold State.countInStates State.inStates; decide
  transfer := by unfold State.transferClocks State.inStates; decide
  data := by unfold State.dataHeldInStates State.inStates; decide

/-- A tick due on the reset state with a received byte: the invariants hold, and the step is taken. -/
theorem witness_EveryStepKeepsTheInvariants :
    ∃ t, let s := due (.tick true true) (withQueues [] [0xED])
      s.externalScript ∧ s.phaseOfTicks ∧ s.storesCanonical ∧ step s = .next t := by
  refine ⟨_, ?_, by unfold State.phaseOfTicks; decide, by unfold State.storesCanonical; decide, rfl⟩
  simp [State.externalScript, due, Item.external]
theorem witness_EveryStepKeepsTheInvariants_legal : (due (.tick true true) State.reset).Legal where
  codes := by unfold State.codesLegal; decide
  idle := by unfold State.idleClean; decide
  clock := by unfold State.clockHeldInPulse; decide
  count := by unfold State.countInStates State.inStates; decide
  transfer := by unfold State.transferClocks State.inStates; decide
  data := by unfold State.dataHeldInStates State.inStates; decide
theorem witness_EveryStepKeepsStoresCanonical :
    ∃ t, let s := due (.port 0x0129 true true) eight
      s.storesCanonical ∧ step s = .next t := ⟨_, by unfold State.storesCanonical; decide, rfl⟩
theorem witness_NoStepLetsAResendInbound :
    ∃ t, let s := due (.tick true true) (atHigh 7 true 0 true 0x41)
      s.storesCanonical ∧ s.noResendInbound ∧ s.externalScript ∧ step s = .next t := by
  refine ⟨_, by unfold State.storesCanonical; decide, ?_, ?_, rfl⟩
  · intro i h
    simp [due, atHigh, State.reset, Queue.reset, Queue.read, unlisted, Config.resendCode] at h
  · simp [State.externalScript, due, Item.external]

theorem witness_ParameterCommandsAndResend :
    (eight.outq.wr - eight.outq.rd).val ≠ 9 ∧ (fullQueues.outq.wr - fullQueues.outq.rd).val = 9 := by decide
theorem witness_KeyBytesAreEnqueuedAndRecorded :
    (eight.outq.wr - eight.outq.rd).val ≠ 9 ∧ (fullQueues.outq.wr - fullQueues.outq.rd).val = 9 := by decide
theorem witness_RepliesReplaceTheQueue : fullQueues.outq.slot.wf = true := by decide

/-- A foreground with one step to take. -/
def todo (op : FgOp) (s : State) : State := { s with fg := { s.fg with todo := [op] } }

theorem witness_RepliesReplaceTheQueue_steps :
    (todo (.request 0x2100) fullQueues).fg.todo = .request 0x2100 :: [] ∧
    (∀ b : Byte, (todo (.respond b) fullQueues).fg.todo = .respond b :: []) ∧
    (0x00 : Byte) ∉ [(0xFA : Byte), 0xFE, 0xAA, 0xEE, 0xAB, 0x83, 0x29, 0xF0] := ⟨rfl, fun _ => rfl, by decide⟩

/-- A foreground with one step to take, `n` ticks after reset. -/
def elapsed (n : Nat) (op : FgOp) (s : State) : State := { todo op s with ticks := BitVec.ofNat 32 n }

/-- The clock's range (R7), as bounds on the two times that are measured. -/
theorem times_bounds : 40000 ≤ Config.tickHz ∧ Config.paramWaitTicks = Config.tickHz ∧ Config.tickHz ≤ 66800 := by
  have h := Config.clkHzAbove.isLt
  simp [Config.paramWaitTicks, Config.tickHz, Config.ticksPerClock, Config.ps2ClkHz]
  omega

/-- The time that has passed, in that state. -/
theorem elapsed_ticks {n : Nat} (h : n < 2 ^ 32) (op : FgOp) {s : State} (h0 : s.fg.t0 = 0 ∧ s.fg.w0 = 0) :
    ((elapsed n op s).ticks - (elapsed n op s).fg.t0).toNat = n ∧ ((elapsed n op s).ticks - (elapsed n op s).fg.w0).toNat = n := by
  simpa [elapsed, todo, h0] using h

/-- A byte at the front of `INQ`, and a step of the foreground due that takes it. -/
def taking (op : FgOp) (b : Byte) : State :=
  todo op { withQueues [] [] with inq := { slot := Memory.write [] 9 b, rd := 9, wr := 0 }, fg := { Foreground.reset with waiting := true } }

/-- It is the byte that is taken, and the wait is on. -/
theorem taking_spec (op : FgOp) (b : Byte) :
    (taking op b).fg.todo = op :: [] ∧ (taking op b).inq.rd ≠ (taking op b).inq.wr ∧
    b = (taking op b).inq.read (taking op b).inq.rd ∧ (taking op b).fg.waiting = true := by
  refine ⟨rfl, by simp [taking, todo], ?_, rfl⟩
  by_cases h : b = unlisted <;> simp [taking, todo, Queue.read, Memory.write, Memory.read, h]

/-- Whatever the sentinel is, there is a byte of every class at an end of the class's range. -/
theorem classes_inhabited :
    linkClass Config.rxErrByte = .sentinel ∧ (∃ b : Byte, linkClass b = .command ∧ b ≠ 0xFE ∧ (b = 0xED ∨ b = 0xFF)) ∧
    ∃ b : Byte, linkClass b = .data ∧ (b = 0xEC ∨ b = 0x00) := by
  refine ⟨if_pos rfl, ?_, ?_⟩
  · by_cases h : (0xED : Byte) = Config.rxErrByte
    · exact ⟨0xFF, linkClass_eq_command.mpr ⟨h ▸ by decide, by decide⟩, by decide, .inr rfl⟩
    · exact ⟨0xED, linkClass_eq_command.mpr ⟨h, by decide⟩, by decide, .inl rfl⟩
  · by_cases h : (0xEC : Byte) = Config.rxErrByte
    · exact ⟨0x00, by simp [linkClass, ← h, Config.cmdMin], .inr rfl⟩
    · exact ⟨0xEC, by simpa [linkClass, Config.cmdMin] using h, .inl rfl⟩

/-- The start of the wait, `IN.DEQ` on an empty `INQ`, and the deadline one tick early and on time. -/
theorem witness_ParameterWaitIsBounded :
    (todo .waitStart State.reset).fg.todo = .waitStart :: [] ∧
    ((todo .waitTake State.reset).fg.todo = .waitTake :: [] ∧ State.reset.inq.rd = State.reset.inq.wr) ∧
    (let s := elapsed (Config.paramWaitTicks - 1) .waitDeadline State.reset
     s.fg.todo = .waitDeadline :: [] ∧ (s.ticks - s.fg.t0).toNat < Config.paramWaitTicks) ∧
    (let s := elapsed Config.paramWaitTicks .waitDeadline State.reset
     s.fg.todo = .waitDeadline :: [] ∧ Config.paramWaitTicks ≤ (s.ticks - s.fg.t0).toNat) := by
  have h := times_bounds
  refine ⟨rfl, ⟨rfl, rfl⟩, ⟨rfl, ?_⟩, rfl, ?_⟩ <;> rw [(elapsed_ticks (by omega) _ ⟨rfl, rfl⟩).1]
  omega
/-- A byte of each class is taken while the wait is on; where the sentinel is not 0xFE, so is a 0xFE. -/
theorem witness_ParameterWaitIsBounded_taken :
    (∃ b : Byte, linkClass b = .sentinel) ∧ (∃ b : Byte, linkClass b = .data) ∧
    (∃ b : Byte, linkClass b = .command ∧ b ≠ 0xFE) ∧
    ((0xFE : Byte) ≠ Config.rxErrByte → ∃ b : Byte, linkClass b = .command ∧ b = 0xFE) ∧
    ∀ b : Byte, (taking .waitTake b).fg.todo = .waitTake :: [] ∧
      (taking .waitTake b).inq.rd ≠ (taking .waitTake b).inq.wr ∧
      b = (taking .waitTake b).inq.read (taking .waitTake b).inq.rd ∧ (taking .waitTake b).fg.waiting = true :=
  have ⟨h1, ⟨b, h2, h3, _⟩, c, h4, _⟩ := classes_inhabited
  ⟨⟨_, h1⟩, ⟨c, h4⟩, ⟨b, h2, h3⟩, fun h => ⟨_, linkClass_eq_command.mpr ⟨h, by decide⟩, rfl⟩, taking_spec _⟩

/-- A fresh count; a count of one and of two at the last tick of the window; and a count of two one tick after it. -/
theorem witness_DebounceCountsThree :
    ((todo .pollSource State.reset).fg.todo = .pollSource :: [] ∧ State.reset.fg.count = 0) ∧
    (∀ n, let s := elapsed (3 * Config.tickHz) .pollSource { State.reset with fg := { Foreground.reset with count := n } }
      s.fg.todo = .pollSource :: [] ∧ s.fg.count = n ∧ (s.ticks - s.fg.w0).toNat ≤ 3 * Config.tickHz) ∧
    (let s := elapsed (3 * Config.tickHz + 1) .pollSource { State.reset with fg := { Foreground.reset with count := 2 } }
     s.fg.todo = .pollSource :: [] ∧ (s.ticks - s.fg.w0).toNat > 3 * Config.tickHz) := by
  have h := times_bounds
  refine ⟨⟨rfl, rfl⟩, fun n => ⟨rfl, rfl, ?_⟩, rfl, ?_⟩ <;> rw [(elapsed_ticks (by omega) _ ⟨rfl, rfl⟩).2]
  omega
theorem witness_TriggersAndRecovery :
    (todo .checkInbound State.reset).fg.todo = .checkInbound :: [] ∧
    (todo .checkOutbound State.reset).fg.todo = .checkOutbound :: [] ∧
    ((todo .checkLinkError State.reset).fg.todo = .checkLinkError :: [] ∧ State.reset.lerr = false) ∧
    (let s : State := todo .checkLinkError { State.reset with lerr := true }
     s.fg.todo = .checkLinkError :: [] ∧ s.lerr = true ∧ s.fg.keys = []) ∧
    (let s : State := todo .checkLinkError { State.reset with lerr := true, fg := { Foreground.reset with keys := [0x29] } }
     s.fg.todo = .checkLinkError :: [] ∧ s.lerr = true ∧ s.fg.keys ≠ []) := by decide
/-- The start of a pass: no link error; one with no key byte on record; and one with a key byte. -/
theorem witness_TriggersAndRecovery_pass :
    (State.reset.fg.todo = [] ∧ State.reset.lerr = false) ∧
    (let s : State := { State.reset with lerr := true }
     s.fg.todo = [] ∧ s.lerr = true ∧ s.fg.keys = []) ∧
    (let s : State := { State.reset with lerr := true, fg := { Foreground.reset with keys := [0xF0] } }
     s.fg.todo = [] ∧ s.lerr = true ∧ s.fg.keys ≠ []) := by decide
theorem witness_ForegroundKeepsToThePort :
    ∃ t, (due (.foreground false) State.reset).script = .event (.foreground false) :: [] ∧
      step (due (.foreground false) State.reset) = .next t := ⟨_, rfl, rfl⟩
/-- Whatever the sentinel is, there is a command at one end of the range or the other, and a data byte likewise. -/
theorem witness_ClassesOfLinkBytes :
    (∃ b : Byte, b = Config.rxErrByte) ∧ (∃ b : Byte, b ≠ Config.rxErrByte ∧ 0xED ≤ b.toNat ∧ (b = 0xED ∨ b = 0xFF)) ∧
    ∃ b : Byte, b ≠ Config.rxErrByte ∧ b.toNat < 0xED ∧ (b = 0xEC ∨ b = 0x00) := by
  obtain ⟨-, ⟨b, hb, -, hb'⟩, c, hc, hc'⟩ := classes_inhabited
  refine ⟨⟨_, rfl⟩, ⟨b, (linkClass_eq_command.mp hb).1, ?_, hb'⟩, c, ?_, ?_, hc'⟩
  · rcases hb' with rfl | rfl <;> decide
  · intro h; simp [linkClass_eq_sentinel.mpr h] at hc
  · rcases hc' with rfl | rfl <;> decide
/-- A pass takes a byte from an empty `INQ`, and any byte from one that holds it. -/
theorem witness_ClassesOfLinkBytes_taken :
    ((todo .takeByte State.reset).fg.todo = .takeByte :: [] ∧ State.reset.inq.rd = State.reset.inq.wr) ∧
    ∀ b : Byte, (taking .takeByte b).fg.todo = .takeByte :: [] ∧
      (taking .takeByte b).inq.rd ≠ (taking .takeByte b).inq.wr ∧
      b = (taking .takeByte b).inq.read (taking .takeByte b).inq.rd :=
  ⟨⟨rfl, rfl⟩, fun b => have h := taking_spec .takeByte b; ⟨h.1, h.2.1, h.2.2.1⟩⟩

end Sys2Proof.Tests
end

section
/-! PROOFS. The step and the instruction it runs (R11), and which instructions write a slot of a queue (R9, R71). -/
namespace Sys2Proof.Machine

/-! ### The step -/

theorem step_of_script {s : State} {i : Item} {rest : List Item} (h : s.script = i :: rest) :
    step s = runItem i { s with script := rest } := by
  simp only [step, stepItem, nextItem, takeItem, h]

theorem step_of_script_nil {s : State} (h : s.script = []) :
    step s = runEvent (Config.freeEvent s.seq) { s with seq := s.seq + 1 } := by
  simp only [step, stepItem, nextItem, takeItem, h, runItem]

theorem runItem_word {sp : Space} {w : Nat} {i : Instr} (h : decode sp w = .ok i) (s : State) :
    runItem (.word sp w) s = exec i s := by
  simp only [runItem, h]

/-- Settles O6: each clause is the entry at the script's head, run on the rest of the script. -/
theorem stepRunsTheInstructionThatIsDue : Obligations.StepRunsTheInstructionThatIsDue := by
  refine ⟨fun s rest c d h => step_of_script h, fun s rest req c d h => step_of_script h,
    fun s rest sp w i h hd => ?_, fun s rest q h => step_of_script h, fun s h => ?_⟩
  · rw [step_of_script h, runItem_word hd]
  · rw [step_of_script_nil h, step_of_script rfl, ← h]
    rfl

/-! ### The queues under the shared operations -/

theorem Queue.read_of_slot {q r : Queue} (h : q.slot = r.slot) (k : Cursor) : q.read k = r.read k :=
  congrArg (Memory.read · k.val) h

/-- Both stores hold what they held. -/
def State.SameSlots (s t : State) : Prop := t.outq.slot = s.outq.slot ∧ t.inq.slot = s.inq.slot

theorem State.SameSlots.of_queues {s t : State} (ho : t.outq = s.outq) (hi : t.inq = s.inq) : s.SameSlots t :=
  ⟨congrArg Queue.slot ho, congrArg Queue.slot hi⟩

@[simp] theorem State.reply_outq (s : State) (bytes : List Byte) (after : List FgOp) :
    (s.reply bytes after).outq = s.outq := rfl
@[simp] theorem State.reply_inq (s : State) (bytes : List Byte) (after : List FgOp) :
    (s.reply bytes after).inq = s.inq := rfl

@[simp] theorem State.takeData_outq (s : State) : s.takeData.outq = s.outq := by
  unfold State.takeData
  split <;> rfl
@[simp] theorem State.takeData_inq (s : State) : s.takeData.inq = s.inq := by
  unfold State.takeData
  split <;> rfl

/-- A key event's byte goes into `OUTQ` as any other byte does, whatever then follows in the to-do list. -/
@[simp] theorem State.enqueueKey_outq (s : State) (b : Byte) (next : List FgOp) :
    (s.enqueueKey b next).outq = (s.outq.enq b).2 := by
  unfold State.enqueueKey
  dsimp only
  split <;> rfl
@[simp] theorem State.enqueueKey_inq (s : State) (b : Byte) (next : List FgOp) :
    (s.enqueueKey b next).inq = s.inq := by
  unfold State.enqueueKey
  dsimp only
  split <;> rfl

/-! ### `INQ` under the handlers -/

/-- A delivery enqueues one byte in `INQ`, or (a valid Resend) leaves `INQ` alone. -/
theorem State.deliver_inq (s : State) : s.deliver.inq = s.inq ∨ ∃ b, s.deliver.inq = (s.inq.enq b).2 := by
  unfold State.deliver
  split
  · split
    · exact .inl rfl
    · exact .inr ⟨_, rfl⟩
  · exact .inr ⟨_, rfl⟩

@[simp] theorem State.idleLogic_inq (s : State) : s.idleLogic.inq = s.inq := by
  rcases s.idleLogic_cases with ⟨-, h⟩ | ⟨-, -, h⟩ | ⟨-, -, h⟩ <;> rw [h] <;> rfl

/-- Of the handlers only ReceiveAck changes `INQ`, by one enqueue (R44, R194). -/
theorem handlerStep_inq (hd : Handler) (s : State) :
    (handlerStep hd s).inq = s.inq ∨ hd = .receiveAck ∧ ∃ b, (handlerStep hd s).inq = (s.inq.enq b).2 := by
  cases hd
  case idle => exact .inl s.idleLogic_inq
  case inhibited =>
    left
    unfold handlerStep inhibitedStep
    dsimp only
    split
    · rfl
    · split <;> rfl
  case sendBit =>
    left
    rcases sendBitStep_cases s with ⟨-, h⟩ | ⟨-, n, -, h⟩ <;> simp [handlerStep, h]
  case sendParity =>
    left
    unfold handlerStep sendParityStep State.placeBit
    dsimp only
    split
    · rfl
    · split <;> rfl
  case sendStopBit | receiveParity => exact .inl rfl
  case receiveBit =>
    left
    obtain ⟨n, -, h⟩ := receiveBitStep_cases s
    rw [handlerStep, h]
  case receiveAck =>
    unfold handlerStep receiveAckStep
    dsimp only
    split
    · exact .inl rfl
    · exact s.holdDat.deliver_inq.imp_right fun h => ⟨rfl, h⟩
  case receiveEnd => exact .inl s.relDat.idleLogic_inq

theorem handlerStep_inq_read (hd : Handler) (s : State) {k : Cursor} (hk : k ≠ s.inq.wr) :
    (handlerStep hd s).inq.read k = s.inq.read k := by
  rcases handlerStep_inq hd s with h | ⟨-, b, h⟩ <;> rw [h]
  exact s.inq.enq_read_other b hk

theorem handlerStep_sameSlots {hd : Handler} (h : hd ≠ .receiveAck) (s : State) : s.SameSlots (handlerStep hd s) := by
  obtain ⟨-, -, -, hslot, -⟩ := handlerStep_frame hd s
  exact ⟨hslot, congrArg Queue.slot ((handlerStep_inq hd s).resolve_right fun ⟨h', _⟩ => h h')⟩

/-! ### The instructions that store -/

/-- OUT.ENQ, QENQ on `OUTQ` and the responses are each one enqueue on `OUTQ`. -/
theorem exec_enqueues_outq {s t : State} {i : Instr} (h : exec i s = .next t)
    (hi : i ∈ [.qenq .outq, .rspAck, .rspResend, .rspSelfTestPass, .rspEcho, .rspId1, .rspId2, .rspMake,
      .rspBreakPrefix] ∨ ∃ b, i = .outEnq b) :
    (∃ b, t.outq = (s.outq.enq b).2) ∧ t.inq = s.inq := by
  cases i
  case rspMake | rspBreakPrefix =>
    obtain rfl := Host.Outcome.next.inj h
    exact ⟨⟨_, s.enqueueKey_outq ..⟩, s.enqueueKey_inq ..⟩
  case outEnq | rspAck | rspResend | rspSelfTestPass | rspEcho | rspId1 | rspId2 =>
    obtain rfl := Host.Outcome.next.inj h
    exact ⟨⟨_, rfl⟩, rfl⟩
  case qenq q =>
    cases q
    · obtain rfl := Host.Outcome.next.inj h
      exact ⟨⟨_, rfl⟩, rfl⟩
    · simp at hi
  all_goals simp at hi

/-- Settles O41: what stores is an enqueue, and an enqueue writes at the write cursor only. -/
theorem storesTouchOneSlot : Obligations.StoresTouchOneSlot := by
  intro s t i k h
  refine ⟨fun hi => ?_, fun hi => ?_⟩
  · obtain ⟨⟨b, ho⟩, hin⟩ := exec_enqueues_outq h hi
    rw [ho]
    exact ⟨s.outq.enq_read_other b, hin, s.outq.enq_rd b⟩
  · simp only [List.mem_cons, List.not_mem_nil, or_false] at hi
    rcases hi with rfl | rfl
    · obtain rfl := Host.Outcome.next.inj h
      exact ⟨s.inq.enq_read_other s.sh, rfl, s.inq.enq_rd s.sh⟩
    · obtain rfl := Host.Outcome.next.inj ((exec_handler .receiveAck s).symm.trans h)
      obtain ⟨-, -, -, hslot, hrd, -⟩ := handlerStep_frame .receiveAck s
      exact ⟨handlerStep_inq_read .receiveAck s, Queue.read_of_slot hslot k, hrd⟩

/-! ### What every tick keeps, a frame keeps -/

/-- A property that no tick breaks, and that does not depend on the host's drive, `wire` or `resp`. -/
structure TickInvariant (P : State → Prop) : Prop where
  host : ∀ {s : State} (c d : Bool), P s → P (s.withHost c d)
  wire : ∀ {s : State} (bits : List Bool), P s → P { s with wire := bits }
  respond : ∀ {s : State} (st : Status) (r : Word), P s → P (s.respond st r)
  tick : ∀ {s t : State}, tick s = .next t → P s → P t

namespace TickInvariant
variable {P : State → Prop} (hP : TickInvariant P)
include hP

theorem ticksN {n : Nat} {s t : State} (h : ticksN n s = .next t) (hs : P s) : P t := by
  induction n generalizing s with
  | zero => exact Host.Outcome.next.inj h ▸ hs
  | succ n ih =>
    obtain ⟨u, hu, ht⟩ := andThen_eq_next.mp h
    exact ih ht (hP.tick hu hs)

theorem period {c d : Bool} {s t : State} (h : period c d s = .next t) (hs : P s) : P t := by
  obtain ⟨u, hu, ht⟩ := andThen_eq_next.mp h
  exact hP.tick ht (hP.host c d (hP.ticksN hu hs))

theorem listen {n : Nat} {bits : List Bool} {s t : State} (h : listen n bits s = .next t) (hs : P s) : P t := by
  induction n generalizing bits s with
  | zero => exact Host.Outcome.next.inj h ▸ hP.wire bits hs
  | succ n ih =>
    unfold Machine.listen at h
    split at h
    · exact Host.Outcome.next.inj h ▸ hP.wire bits hs
    · obtain ⟨u, hu, ht⟩ := andThen_eq_next.mp h
      exact ih ht (hP.period hu hs)

theorem drive {ds : List (Bool × Bool)} {bits : List Bool} {s t : State} (h : drive ds bits s = .next t) (hs : P s) :
    P t := by
  induction ds generalizing bits s with
  | nil => exact Host.Outcome.next.inj h ▸ hP.wire bits hs
  | cons d ds ih =>
    obtain ⟨u, hu, ht⟩ := andThen_eq_next.mp h
    exact ih ht (hP.period hu hs)

theorem frameD2H {b : Byte} {p : Bool} {s t : State} (h : exec (.frameD2H b p) s = .next t) (hs : P s) : P t := by
  obtain ⟨u, hu, ht⟩ := andThen_eq_next.mp h
  exact Host.Outcome.next.inj ht ▸ hP.respond _ _ (hP.listen hu hs)

theorem frameH2D {b : Byte} {p : Bool} {s t : State} (h : exec (.frameH2D b p) s = .next t) (hs : P s) : P t := by
  obtain ⟨u, hu, ht⟩ := andThen_eq_next.mp h
  exact Host.Outcome.next.inj ht ▸ hP.respond _ _ (hP.drive hu hs)

end TickInvariant

/-! ### The instructions that do not store -/

/-- What only the foreground writes of the queues is as it was in `s`: `OUTQ`'s slots, `OUTQ.WR` and `INQ.RD` (R44). -/
def State.SameForegroundSide (s t : State) : Prop :=
  t.outq.slot = s.outq.slot ∧ t.outq.wr = s.outq.wr ∧ t.inq.rd = s.inq.rd

/-- The three phases that run no handler leave both queues alone (R181 to R183). -/
theorem exec_edge_queues {s t : State} {i : Instr} (h : exec i s = .next t)
    (hi : i = .fall ∨ i = .low ∨ i = .rise) : t.outq = s.outq ∧ t.inq = s.inq := by
  rcases hi with rfl | rfl | rfl <;> obtain rfl := Host.Outcome.next.inj h
  case inr.inl => exact ⟨rfl, rfl⟩
  all_goals cases s.gen <;> exact ⟨rfl, rfl⟩

theorem execHigh_sameForegroundSide {s t : State} (h : execHigh s = .next t) : s.SameForegroundSide t := by
  obtain ⟨hd, -, rfl⟩ := execHigh_cases h
  obtain ⟨-, -, hwr, hslot, hrd, -⟩ := handlerStep_frame hd s
  exact ⟨hslot, hwr, hrd⟩

theorem tick_sameForegroundSide {s t : State} (h : tick s = .next t) : s.SameForegroundSide t := by
  rw [tick_eq_exec] at h
  have edge {i : Instr} (hi : i = .fall ∨ i = .low ∨ i = .rise) (h : exec i s = .next t) :
      s.SameForegroundSide t := by
    obtain ⟨ho, hin⟩ := exec_edge_queues h hi
    rw [State.SameForegroundSide, ho, hin]
    exact ⟨rfl, rfl, rfl⟩
  rcases exec_phase_cases (c := s.hclk) (d := s.hdat) h with ⟨-, h⟩ | ⟨-, h⟩ | ⟨-, h⟩ | ⟨-, h⟩
  · exact edge (.inl rfl) h
  · exact edge (.inr (.inl rfl)) h
  · exact edge (.inr (.inr rfl)) h
  · exact execHigh_sameForegroundSide h

theorem sameForegroundSide_tickInvariant (s : State) : TickInvariant s.SameForegroundSide where
  host _ _ h := h
  wire _ h := h
  respond _ _ h := h
  tick ht h := by
    obtain ⟨hslot, hwr, hrd⟩ := h
    obtain ⟨hslot', hwr', hrd'⟩ := tick_sameForegroundSide ht
    exact ⟨hslot'.trans hslot, hwr'.trans hwr, hrd'.trans hrd⟩

/-- An instruction that neither enqueues nor runs ReceiveAck writes no slot. -/
theorem exec_sameSlots {s t : State} {i : Instr} (h : exec i s = .next t)
    (hi : i ∉ [.qenq .outq, .qenq .inq, .rspAck, .rspResend, .rspSelfTestPass, .rspEcho, .rspId1, .rspId2, .rspMake,
      .rspBreakPrefix, .receiveAck, .high])
    (hEnq : ∀ b, i ≠ .outEnq b) (hD2H : ∀ b p, i ≠ .frameD2H b p) (hH2D : ∀ b p, i ≠ .frameH2D b p) :
    s.SameSlots t := by
  have handler (hd : Handler) (hne : hd ≠ .receiveAck) (h : exec hd.instr s = .next t) : s.SameSlots t := by
    obtain rfl := Host.Outcome.next.inj ((exec_handler hd s).symm.trans h)
    exact handlerStep_sameSlots hne s
  cases i
  case outEnq b => exact absurd rfl (hEnq b)
  case frameD2H b p => exact absurd rfl (hD2H b p)
  case frameH2D b p => exact absurd rfl (hH2D b p)
  case qenq q => cases q <;> simp at hi
  case rspAck | rspResend | rspSelfTestPass | rspEcho | rspId1 | rspId2 | rspMake | rspBreakPrefix
  | receiveAck | high =>
    simp at hi
  case idle => exact handler .idle (by decide) h
  case inhibited => exact handler .inhibited (by decide) h
  case sendBit => exact handler .sendBit (by decide) h
  case sendParity => exact handler .sendParity (by decide) h
  case sendStopBit => exact handler .sendStopBit (by decide) h
  case receiveBit => exact handler .receiveBit (by decide) h
  case receiveParity => exact handler .receiveParity (by decide) h
  case receiveEnd => exact handler .receiveEnd (by decide) h
  case fall | low | rise =>
    obtain ⟨ho, hin⟩ := exec_edge_queues h (by simp)
    exact .of_queues ho hin
  case qunq q =>
    cases q
    · obtain rfl := Host.Outcome.next.inj h
      exact ⟨s.outq.unq_slot, rfl⟩
    · cases h
  case qclr q =>
    cases q
    · obtain rfl := Host.Outcome.next.inj h
      exact ⟨rfl, rfl⟩
    · cases h
  case qdeq q =>
    obtain rfl := Host.Outcome.next.inj h
    cases q
    · exact ⟨s.outq.deq_slot, rfl⟩
    · exact ⟨rfl, s.inq.deq_slot⟩
  all_goals obtain rfl := Host.Outcome.next.inj h
  case inDeq => exact ⟨rfl, s.inq.deq_slot⟩
  case cmdResend => exact ⟨s.outq.unq_slot, rfl⟩
  case data007F | data80BF | dataC0DF | dataE0E7 | dataE8EB | dataECEC =>
    exact .of_queues s.takeData_outq s.takeData_inq
  all_goals exact ⟨rfl, rfl⟩

/-- Settles O42: ReceiveAck's enqueue is all that a HIGH tick or a frame does to a store. -/
theorem otherInstructionsStoreNothing : Obligations.OtherInstructionsStoreNothing := by
  intro s t i h
  refine ⟨fun hi hEnq hD2H hH2D k => ?_, fun hi => ?_, fun hi k hk => ?_⟩
  · obtain ⟨ho, hin⟩ := exec_sameSlots h hi hEnq hD2H hH2D
    exact ⟨Queue.read_of_slot ho k, Queue.read_of_slot hin k⟩
  · have hs : s.SameForegroundSide s := ⟨rfl, rfl, rfl⟩
    rcases hi with rfl | ⟨b, p, rfl⟩ | ⟨b, p, rfl⟩
    · exact execHigh_sameForegroundSide h
    · exact (sameForegroundSide_tickInvariant s).frameD2H h hs
    · exact (sameForegroundSide_tickInvariant s).frameH2D h hs
  · subst hi
    obtain ⟨hd, -, rfl⟩ := execHigh_cases h
    exact handlerStep_inq_read hd s hk

end Sys2Proof.Machine
end

section
/-! PROOFS. The invariants of the state (R49, R341, the canonical stores), and the fields each agent keeps to (R44). -/
namespace Sys2Proof.Machine

/-! ### The engine's registers -/

/-- The fields of the state vector that only the engine writes (R44), the queue cursors apart. -/
structure Registers where
  st : BitVec 4
  ph : BitVec 2
  gen : Bool
  cnt : BitVec 4
  par : Bool
  sh : Byte
  clkOe : Bool
  datOe : Bool
  ticks : Word

/-- The engine's registers in a state. -/
def State.registers (s : State) : Registers where
  st := s.st
  ph := s.ph
  gen := s.gen
  cnt := s.cnt
  par := s.par
  sh := s.sh
  clkOe := s.clkOe
  datOe := s.datOe
  ticks := s.ticks

theorem State.registers_eq_iff {s t : State} :
    t.registers = s.registers ↔ t.st = s.st ∧ t.ph = s.ph ∧ t.gen = s.gen ∧ t.cnt = s.cnt ∧ t.par = s.par ∧
      t.sh = s.sh ∧ t.clkOe = s.clkOe ∧ t.datOe = s.datOe ∧ t.ticks = s.ticks := by
  simp only [State.registers, Registers.mk.injEq]

/-! ### The tick -/

/-- What a tick can do (R180): the action of its phase, then the advance. -/
theorem tick_cases {s t : State} (h : tick s = .next t) :
    (s.ph = 0 ∧ t = (if s.gen then s.holdClk else s).advance) ∨
    (s.ph = 1 ∧ t = s.advance) ∨
    (s.ph = 2 ∧ t = (if s.gen then s.relClk else s).advance) ∨
    (s.ph = 3 ∧ ∃ hd : Handler, s.st = hd.code ∧ t = (handlerStep hd s).advance) := by
  rw [tick_eq_exec] at h
  rcases exec_phase_cases (c := s.hclk) (d := s.hdat) h with ⟨hp, h⟩ | ⟨hp, h⟩ | ⟨hp, h⟩ | ⟨hp, h⟩
  · exact .inl ⟨hp, (Host.Outcome.next.inj h).symm⟩
  · exact .inr (.inl ⟨hp, (Host.Outcome.next.inj h).symm⟩)
  · exact .inr (.inr (.inl ⟨hp, (Host.Outcome.next.inj h).symm⟩))
  · exact .inr (.inr (.inr ⟨hp, execHigh_cases h⟩))

theorem tickStep_eq_tick (c d : Bool) (s : State) : tickStep c d s = tick (s.withHost c d) :=
  (tick_eq_exec (s.withHost c d)).symm

/-- A tick ends in a next state wherever `ST` names a handler (R107, R184). -/
theorem tick_completes {s : State} {hd : Handler} (hst : s.st = hd.code) : ∃ t, tick s = .next t := by
  unfold tick
  split
  · exact ⟨_, rfl⟩
  · split
    · exact ⟨_, rfl⟩
    · split
      · exact ⟨_, rfl⟩
      · exact ⟨_, execHigh_of_code hst⟩

/-- The frame of a tick: `PH` and `TICKS` advance; nothing of the foreground's, no input and no output is written, and
`LERR` is not cleared (R44, R180). -/
structure State.TicksTo (s t : State) : Prop where
  ph : t.ph = s.ph + 1
  ticks : t.ticks = s.ticks + 1
  outWr : t.outq.wr = s.outq.wr
  outSlot : t.outq.slot = s.outq.slot
  inRd : t.inq.rd = s.inq.rd
  lerr : s.lerr = true → t.lerr = true
  fg : t.fg = s.fg
  req : t.req = s.req
  resp : t.resp = s.resp
  wire : t.wire = s.wire
  seq : t.seq = s.seq
  script : t.script = s.script
  hclk : t.hclk = s.hclk
  hdat : t.hdat = s.hdat

theorem State.ticksTo_advance (s : State) : s.TicksTo s.advance := by
  constructor <;> simp

theorem State.ticksTo_advance_handlerStep (s : State) (hd : Handler) : s.TicksTo (handlerStep hd s).advance := by
  obtain ⟨hph, hticks, hwr, hslot, hrd, hlerr, hfg, hreq, hresp, hwire, hseq, hscript, hhclk, hhdat⟩ :=
    handlerStep_frame hd s
  exact ⟨congrArg (· + 1) hph, congrArg (· + 1) hticks, hwr, hslot, hrd, hlerr, hfg, hreq, hresp, hwire, hseq, hscript,
    hhclk, hhdat⟩

theorem tick_ticksTo {s t : State} (h : tick s = .next t) : s.TicksTo t := by
  rcases tick_cases h with ⟨-, rfl⟩ | ⟨-, rfl⟩ | ⟨-, rfl⟩ | ⟨-, hd, -, rfl⟩
  case inr.inl => exact s.ticksTo_advance
  case inr.inr.inr => exact s.ticksTo_advance_handlerStep hd
  all_goals cases s.gen <;> constructor <;> simp

/-- Settles O30: the tick's frame, under the host drive of the step. -/
theorem ticksKeepToTheirFields : Obligations.TicksKeepToTheirFields := by
  intro s t rest c d hs h
  rw [step_of_script hs] at h
  have f := tick_ticksTo ((tickStep_eq_tick c d _).symm.trans h)
  exact ⟨f.outWr, f.outSlot, f.inRd, f.lerr, f.fg, f.req, f.resp, f.wire, f.seq, f.script, f.hclk, f.hdat⟩

/-! ### The six invariants, by handler -/

theorem Handler.code_inj {h h' : Handler} (he : h.code = h'.code) : h = h' := by
  simpa using congrArg Handler.ofCode he

theorem State.inStates_iff {s : State} {h : Handler} (hst : s.st = h.code) (hs : List Handler) :
    s.inStates hs ↔ h ∈ hs :=
  ⟨fun ⟨_, hmem, hst'⟩ => Handler.code_inj (hst.symm.trans hst') ▸ hmem, fun hmem => ⟨h, hmem, hst⟩⟩

/-- What R49 asks of the fields in each handler state, the clock drive apart. -/
def State.FieldsLegal (s : State) : Handler → Prop
  | .idle => s.cnt = 0 ∧ s.par = false ∧ s.sh = 0 ∧ s.datOe = false
  | .inhibited => s.cnt.toNat ≤ 8 ∧ s.datOe = false
  | .sendBit => (1 ≤ s.cnt.toNat ∧ s.cnt.toNat ≤ 8) ∧ s.gen = true
  | .sendParity | .sendStopBit | .receiveEnd => s.cnt = 0 ∧ s.gen = true
  | .receiveBit => (1 ≤ s.cnt.toNat ∧ s.cnt.toNat ≤ 8) ∧ s.gen = true ∧ s.datOe = false
  | .receiveParity | .receiveAck => s.cnt = 0 ∧ s.gen = true ∧ s.datOe = false

/-- The items of R49, read at the handler state: the clock's, and those of the other fields. Item 1's bound on the count
follows from items 2 and 4, but for Inhibited. -/
theorem State.legal_iff_of_code {s : State} {h : Handler} (hst : s.st = h.code) :
    s.Legal ↔ s.clockHeldInPulse ∧ s.FieldsLegal h := by
  have items : s.Legal ↔ s.codesLegal ∧ s.idleClean ∧ s.clockHeldInPulse ∧ s.countInStates ∧ s.transferClocks ∧
      s.dataHeldInStates := ⟨fun ⟨a, b, c, d, e, f⟩ => ⟨a, b, c, d, e, f⟩, fun ⟨a, b, c, d, e, f⟩ => ⟨a, b, c, d, e, f⟩⟩
  have hle : s.st.toNat ≤ 8 := by rw [hst]; cases h <;> decide
  have hidle : s.st = Handler.idle.code ↔ h = .idle :=
    ⟨fun he => Handler.code_inj (hst.symm.trans he), fun he => he ▸ hst⟩
  have hzero : s.cnt = 0#4 → s.cnt.toNat ≤ 8 := fun h0 => by rw [h0]; decide
  rw [items]
  unfold State.codesLegal State.idleClean State.countInStates State.transferClocks State.dataHeldInStates
  simp only [State.inStates_iff hst, hidle, hle, transferStates]
  cases h <;> simp [State.FieldsLegal] <;> tauto

/-- A state meets R49 exactly where `ST` names a handler and the fields are as that handler state asks. -/
theorem State.legal_iff {s : State} : s.Legal ↔ s.clockHeldInPulse ∧ ∃ h : Handler, s.st = h.code ∧ s.FieldsLegal h := by
  constructor
  · intro hs
    obtain ⟨h, hc⟩ := Option.isSome_iff_exists.mp ((Handler.ofCode_isSome s.st).trans (decide_eq_true hs.codes.1))
    have hst := Handler.code_of_ofCode hc
    obtain ⟨hclock, hfields⟩ := (State.legal_iff_of_code hst).mp hs
    exact ⟨hclock, h, hst, hfields⟩
  · rintro ⟨hclock, h, hst, hfields⟩
    exact (State.legal_iff_of_code hst).mpr ⟨hclock, hfields⟩

theorem State.FieldsLegal.of_eq {s t : State} {h : Handler} (hs : s.FieldsLegal h) (hcnt : t.cnt = s.cnt)
    (hgen : t.gen = s.gen) (hpar : t.par = s.par) (hsh : t.sh = s.sh) (hdat : t.datOe = s.datOe) : t.FieldsLegal h := by
  cases h <;> simpa [State.FieldsLegal, hcnt, hgen, hpar, hsh, hdat] using hs

theorem State.Legal.of_registers {s t : State} (hs : s.Legal) (h : t.registers = s.registers) : t.Legal := by
  obtain ⟨hst, hph, hgen, hcnt, hpar, hsh, hclk, hdat, -⟩ := State.registers_eq_iff.mp h
  obtain ⟨hclock, hd, hcode, hfields⟩ := State.legal_iff.mp hs
  refine State.legal_iff.mpr ⟨?_, hd, hst.trans hcode, hfields.of_eq hcnt hgen hpar hsh hdat⟩
  rwa [State.clockHeldInPulse, hclk, hph, hgen]

/-! ### The handlers keep the six invariants -/

/-- Legal in handler state `h` at a HIGH tick, where the clock is released. -/
def State.LegalAtHigh (s : State) (h : Handler) : Prop := s.st = h.code ∧ s.clkOe = false ∧ s.FieldsLegal h

/-- The bit count with which a transfer begins (R186, R188). -/
theorem startCount_legal : 1 ≤ (8#4).toNat ∧ (8#4).toNat ≤ 8 := by decide

theorem toNat_of_countDown {n c : BitVec 4} (hn : c ≠ 0 → n = c - 1) (hc : 1 ≤ c.toNat) : n.toNat = c.toNat - 1 := by
  rw [hn (by rintro rfl; simp at hc)]
  bv_omega

/-- A count that went down in a bit state and is not 0 is still one of a bit state. -/
theorem countDown_legal {n c : BitVec 4} (hn : c ≠ 0 → n = c - 1) (hc : 1 ≤ c.toNat ∧ c.toNat ≤ 8) (h0 : n ≠ 0) :
    1 ≤ n.toNat ∧ n.toNat ≤ 8 := by
  have hval := toNat_of_countDown hn hc.1
  have : n.toNat ≠ 0 := fun h => h0 (BitVec.eq_of_toNat_eq h)
  omega

/-- The Idle decision ends in a legal state, whatever the other fields were, if the data line was released. -/
theorem State.idleLogic_legal {s : State} (hdat : s.datOe = false) : ∃ h, s.idleLogic.LegalAtHigh h := by
  rcases s.idleLogic_cases with ⟨-, h⟩ | ⟨-, -, h⟩ | ⟨-, -, h⟩ <;> rw [h]
  · exact ⟨.inhibited, rfl, rfl, Nat.zero_le 8, hdat⟩
  · exact ⟨.sendBit, rfl, rfl, startCount_legal, rfl⟩
  · exact ⟨.idle, rfl, rfl, rfl, rfl, rfl, hdat⟩

theorem inhibitedStep_legal {s : State} (hs : s.LegalAtHigh .inhibited) : ∃ h, (inhibitedStep s).LegalAtHigh h := by
  have ⟨_, hclk, hcnt, hdat⟩ := hs
  unfold inhibitedStep
  split
  · exact ⟨.inhibited, hs⟩
  · split
    · exact ⟨.idle, rfl, hclk, rfl, rfl, rfl, hdat⟩
    · exact ⟨.receiveBit, rfl, hclk, startCount_legal, rfl, hdat⟩

theorem sendBitStep_legal {s : State} (hs : s.LegalAtHigh .sendBit) : ∃ h, (sendBitStep s).LegalAtHigh h := by
  obtain ⟨hst, hclk, hcnt, hgen⟩ := hs
  rcases sendBitStep_cases s with ⟨-, h⟩ | ⟨-, n, hn, h⟩ <;> rw [h]
  · exact ⟨.inhibited, rfl, hclk, hcnt.2, rfl⟩
  · by_cases h0 : n = 0
    · exact ⟨.sendParity, if_pos h0, hclk, h0, hgen⟩
    · exact ⟨.sendBit, (if_neg h0).trans hst, hclk, countDown_legal hn hcnt h0, hgen⟩

theorem sendParityStep_legal {s : State} (hs : s.LegalAtHigh .sendParity) : ∃ h, (sendParityStep s).LegalAtHigh h := by
  obtain ⟨-, hclk, hcnt, hgen⟩ := hs
  unfold sendParityStep State.placeBit
  split
  · exact ⟨.inhibited, rfl, hclk, by simp [hcnt], rfl⟩
  · split <;> exact ⟨.sendStopBit, rfl, hclk, hcnt, hgen⟩

theorem receiveBitStep_legal {s : State} (hs : s.LegalAtHigh .receiveBit) : ∃ h, (receiveBitStep s).LegalAtHigh h := by
  obtain ⟨hst, hclk, hcnt, hgen, hdat⟩ := hs
  obtain ⟨n, hn, h⟩ := receiveBitStep_cases s
  rw [h]
  by_cases h0 : n = 0
  · exact ⟨.receiveParity, if_pos h0, hclk, h0, hgen, hdat⟩
  · exact ⟨.receiveBit, (if_neg h0).trans hst, hclk, countDown_legal hn hcnt h0, hgen, hdat⟩

theorem State.deliver_registers (s : State) : s.deliver.registers = s.registers := by
  unfold State.deliver
  split
  · split <;> rfl
  · rfl

theorem receiveAckStep_legal {s : State} (hs : s.LegalAtHigh .receiveAck) : ∃ h, (receiveAckStep s).LegalAtHigh h := by
  have ⟨_, hclk, hcnt, hgen, _⟩ := hs
  unfold receiveAckStep
  split
  · exact ⟨.receiveAck, hs⟩
  · obtain ⟨-, -, hgen', hcnt', -, -, hclk', -⟩ := State.registers_eq_iff.mp s.holdDat.deliver_registers
    exact ⟨.receiveEnd, rfl, hclk'.trans hclk, hcnt'.trans hcnt, hgen'.trans hgen⟩

/-- The handler of a HIGH tick leads from a legal handler state to a legal one (R49, R196). -/
theorem handlerStep_legal {hd : Handler} {s : State} (hs : s.LegalAtHigh hd) : ∃ h, (handlerStep hd s).LegalAtHigh h := by
  cases hd
  case idle =>
    obtain ⟨-, -, -, -, -, hdat⟩ := hs
    exact State.idleLogic_legal hdat
  case inhibited => exact inhibitedStep_legal hs
  case sendBit => exact sendBitStep_legal hs
  case sendParity => exact sendParityStep_legal hs
  case sendStopBit =>
    obtain ⟨-, hclk, -⟩ := hs
    exact ⟨.idle, rfl, hclk, rfl, rfl, rfl, rfl⟩
  case receiveBit => exact receiveBitStep_legal hs
  case receiveParity =>
    obtain ⟨-, hclk, hcnt, hgen, hdat⟩ := hs
    exact ⟨.receiveAck, rfl, hclk, hcnt, hgen, hdat⟩
  case receiveAck => exact receiveAckStep_legal hs
  case receiveEnd => exact State.idleLogic_legal rfl

/-- Every tick keeps the six invariants: the edges move the clock alone, a HIGH tick runs a handler. -/
theorem tick_legal {s t : State} (h : tick s = .next t) (hs : s.Legal) : t.Legal := by
  obtain ⟨hclock, hd, hst, hfields⟩ := State.legal_iff.mp hs
  have edge {u : State} (hu : u = { s with clkOe := u.clkOe, ph := u.ph, ticks := u.ticks })
      (hc : u.clockHeldInPulse) : u.Legal := by
    refine State.legal_iff.mpr ⟨hc, hd, ?_, ?_⟩
    · rw [hu]
      exact hst
    · rw [hu]
      exact hfields.of_eq rfl rfl rfl rfl rfl
  have released (hp : ¬(s.ph = 1 ∨ s.ph = 2)) : s.clkOe = false := Bool.eq_false_iff.mpr fun hc => hp (hclock hc).1
  rcases tick_cases h with ⟨hp, rfl⟩ | ⟨hp, rfl⟩ | ⟨hp, rfl⟩ | ⟨hp, hd', hst', rfl⟩
  · cases hg : s.gen
    · exact edge rfl fun hc => absurd hc (by simp [released, hp])
    · exact edge rfl fun _ => ⟨.inl (by simp [hp]), hg⟩
  · exact edge rfl fun hc => ⟨.inr (by simp [hp]), (hclock hc).2⟩
  · cases hg : s.gen
    · exact edge rfl fun hc => absurd (hclock hc).2 (by simp [hg])
    · exact edge rfl fun hc => absurd hc (by simp)
  · obtain rfl := Handler.code_inj (hst.symm.trans hst')
    obtain ⟨h', hst', hclk, hfields'⟩ := handlerStep_legal ⟨hst, released (by simp [hp]), hfields⟩
    exact State.legal_iff.mpr ⟨fun hc => absurd hc (by simp [hclk]), h', hst', hfields'.of_eq rfl rfl rfl rfl rfl⟩

/-! ### The frames complete in legal states -/

/-- A property of the engine's registers and the script: a tick and a reset keep it, and so does what leaves the registers
alone and puts nothing on the script. -/
structure EngineInvariant (P : State → Prop) : Prop where
  frame : ∀ {s t : State}, P s → t.registers = s.registers → t.script ⊆ s.script → P t
  tick : ∀ {s t : State}, tick s = .next t → P s → P t
  reset : ∀ {s : State}, P s → P s.applyReset

theorem EngineInvariant.tickInvariant {P : State → Prop} (hP : EngineInvariant P) : TickInvariant P where
  host _ _ h := hP.frame h rfl (List.Subset.refl _)
  wire _ h := hP.frame h rfl (List.Subset.refl _)
  respond _ _ h := hP.frame h rfl (List.Subset.refl _)
  tick := hP.tick

/-- The engine's registers at reset: the idle handler state with every field at its default (R340). -/
theorem State.legal_of_reset {s : State} (h : s.registers = State.reset.registers) : s.Legal := by
  have hreset : State.reset.Legal :=
    State.legal_iff.mpr ⟨fun hc => absurd hc (by decide), .idle, rfl, rfl, rfl, rfl, rfl⟩
  exact hreset.of_registers h

theorem legal_engineInvariant : EngineInvariant State.Legal where
  frame h hr _ := h.of_registers hr
  tick := tick_legal
  reset _ := State.legal_of_reset rfl

theorem State.Legal.tick_completes {s : State} (hs : s.Legal) : ∃ t, tick s = .next t := by
  obtain ⟨-, _, hst, -⟩ := State.legal_iff.mp hs
  exact Machine.tick_completes hst

/-- An outcome that is a next state with this property. -/
def Reaches (P : State → Prop) (o : Outcome) : Prop := ∃ t, o = .next t ∧ P t

theorem Reaches.andThen {P Q : State → Prop} {o : Outcome} {k : State → Outcome} (ho : Reaches P o)
    (hk : ∀ t, P t → Reaches Q (k t)) : Reaches Q (andThen o k) := by
  obtain ⟨t, rfl, ht⟩ := ho
  exact hk t ht

namespace TickInvariant
variable {P : State → Prop} (hP : TickInvariant P) (hT : ∀ s, P s → ∃ t, Machine.tick s = .next t)
include hP hT

theorem tick_reaches {s : State} (hs : P s) : Reaches P (Machine.tick s) := by
  obtain ⟨t, ht⟩ := hT s hs
  exact ⟨t, ht, hP.tick ht hs⟩

theorem ticksN_reaches (n : Nat) {s : State} (hs : P s) : Reaches P (Machine.ticksN n s) := by
  induction n generalizing s with
  | zero => exact ⟨s, rfl, hs⟩
  | succ n ih => exact (hP.tick_reaches hT hs).andThen fun _ => ih

theorem period_reaches (c d : Bool) {s : State} (hs : P s) : Reaches P (Machine.period c d s) :=
  (hP.ticksN_reaches hT _ hs).andThen fun _ ht => hP.tick_reaches hT (hP.host c d ht)

theorem listen_reaches (n : Nat) (bits : List Bool) {s : State} (hs : P s) : Reaches P (Machine.listen n bits s) := by
  induction n generalizing bits s with
  | zero => exact ⟨_, rfl, hP.wire bits hs⟩
  | succ n ih =>
    unfold Machine.listen
    split
    · exact ⟨_, rfl, hP.wire bits hs⟩
    · exact (hP.period_reaches hT _ _ hs).andThen fun _ => ih _

theorem drive_reaches (ds : List (Bool × Bool)) (bits : List Bool) {s : State} (hs : P s) :
    Reaches P (Machine.drive ds bits s) := by
  induction ds generalizing bits s with
  | nil => exact ⟨_, rfl, hP.wire bits hs⟩
  | cons d ds ih => exact (hP.period_reaches hT _ _ hs).andThen fun _ => ih _

theorem frameD2H_reaches (b : Byte) (p : Bool) {s : State} (hs : P s) : Reaches P (exec (.frameD2H b p) s) :=
  (hP.listen_reaches hT _ _ hs).andThen fun _ ht => ⟨_, rfl, hP.respond _ _ ht⟩

theorem frameH2D_reaches (b : Byte) (p : Bool) {s : State} (hs : P s) : Reaches P (exec (.frameH2D b p) s) :=
  (hP.drive_reaches hT _ _ hs).andThen fun _ ht => ⟨_, rfl, hP.respond _ _ ht⟩

end TickInvariant

/-- Settles O45: every tick of the run is taken in a legal state, so it completes and leaves one. -/
theorem framesCompleteInLegalStates : Obligations.FramesCompleteInLegalStates := by
  intro s b p hs
  have hT (u : State) (hu : u.Legal) := hu.tick_completes
  have hP := legal_engineInvariant.tickInvariant
  exact ⟨hP.frameD2H_reaches hT b p hs, hP.frameH2D_reaches hT b p hs⟩

/-! ### What a port transaction, a link byte and a response byte can do -/

/-- The operation byte of a request word (R101). -/
theorem toNat_opOf (req : Req) : (req.extractLsb' 8 8).toNat = req.toNat / 256 := by
  have := req.isLt
  rw [BitVec.extractLsb'_toNat, Nat.shiftRight_eq_div_pow]
  omega

/-- What a port transaction can do (R250 to R264): it drives a response, and four operations write one field each. -/
theorem portStep_cases (req : Req) (s : State) : ∃ r,
    let u := { s with req := req, resp := r }
    ((∃ b, portStep req s = .next { u with outq := (s.outq.enq b).2 }) ∧ req.toNat / 256 = 0x01) ∨
    (portStep req s = .next { u with outq := s.outq.clr } ∧ req.toNat / 256 = 0x02) ∨
    (portStep req s = .next { u with inq := s.inq.deq.2.2 } ∧ req.toNat / 256 = 0x16) ∨
    (portStep req s = .next { u with lerr := false } ∧ req.toNat / 256 = 0x21) ∨
    portStep req s = .next u := by
  rw [← toNat_opOf]
  rcases decodePort_cases req with ⟨b, hi, hop⟩ | ⟨hi, hop⟩ | ⟨hi, hop⟩ | ⟨hi, hop⟩ | hi | ⟨op, hi⟩
  · exact ⟨_, .inl ⟨⟨b, by rw [portStep, hi]; rfl⟩, by rw [hop]; rfl⟩⟩
  · exact ⟨_, .inr (.inl ⟨by rw [portStep, hi]; rfl, by rw [hop]; rfl⟩)⟩
  · exact ⟨_, .inr (.inr (.inl ⟨by rw [portStep, hi]; rfl, by rw [hop]; rfl⟩))⟩
  · exact ⟨_, .inr (.inr (.inr (.inl ⟨by rw [portStep, hi]; rfl, by rw [hop]; rfl⟩)))⟩
  · simp only [List.mem_cons, List.not_mem_nil, or_false] at hi
    rcases hi with hi | hi | hi | hi | hi | hi | hi | hi | hi <;>
      exact ⟨_, .inr (.inr (.inr (.inr (by rw [portStep, hi]; rfl))))⟩
  · exact ⟨_, .inr (.inr (.inr (.inr (by rw [portStep, hi]; rfl))))⟩

/-- Settles O16: of the block a transaction writes one field at most, and `OP` says which. -/
theorem portTransactionsKeepToTheirFields : Obligations.PortTransactionsKeepToTheirFields := by
  intro s rest req c d hs
  rw [step_of_script hs]
  obtain ⟨r, ⟨⟨b, h⟩, hop⟩ | ⟨h, hop⟩ | ⟨h, hop⟩ | ⟨h, hop⟩ | h⟩ :=
    portStep_cases req ({ s with script := rest }.withHost c d)
  case inr.inr.inr.inr => exact ⟨_, h, by simp⟩
  all_goals exact ⟨_, h, by simp [hop]⟩

theorem decodePort_space (req : Req) : (decodePort req).space = .port := by
  rcases decodePort_cases req with ⟨b, hi, -⟩ | ⟨hi, -⟩ | ⟨hi, -⟩ | ⟨hi, -⟩ | hi | ⟨op, hi⟩
  case inr.inr.inr.inr.inl =>
    simp only [List.mem_cons, List.not_mem_nil, or_false] at hi
    rcases hi with hi | hi | hi | hi | hi | hi | hi | hi | hi <;> rw [hi] <;> rfl
  all_goals rw [hi]; rfl

/-- Settles O17: each operation's answer is made of the fields the two states agree on. -/
theorem portAnswersHideTheEngine : Obligations.PortAnswersHideTheEngine := by
  intro s s' t t' req hlerr hticks hout hin hclk hdat h h'
  have hspace := decodePort_space req
  generalize decodePort req = i at h h' hspace
  cases i <;> cases hspace
  all_goals
    obtain rfl := Host.Outcome.next.inj h
    obtain rfl := Host.Outcome.next.inj h'
  case linesRd => simp [State.clk, State.dat, hclk, hdat]
  case ticksRd => simp [hticks]
  case lerrRd => simp [hlerr]
  case outEnq | outEmpty | outFull | outPeek => simp [hout]
  case inEmpty | inFull | inPeek | inDeq => simp [hin]
  case outClr | lerrClr | illegal => rfl

/-- The response bytes are enqueued, a key event's as such (R293 to R300). -/
theorem exec_response_cases {i : Instr} (h : i.space = .response) (s : State) :
    (∃ b, exec i s = .next (s.enqueue b)) ∨ ∃ b next, exec i s = .next (s.enqueueKey b next) := by
  cases i <;> cases h
  case rspMake | rspBreakPrefix => exact .inr ⟨_, _, rfl⟩
  all_goals exact .inl ⟨_, rfl⟩

/-- A link byte is the engine's Resend, a command with its reply, or a data byte (R281 to R292). -/
theorem exec_link_cases {i : Instr} (h : i.space = .link) (s : State) :
    (i = .cmdResend ∧ exec i s = .next { s with outq := s.outq.unq.2 }) ∨
    (∃ bytes after, exec i s = .next (s.reply bytes after)) ∨ exec i s = .next s.takeData := by
  cases i <;> cases h
  case cmdResend => exact .inl ⟨rfl, rfl⟩
  case data007F | data80BF | dataC0DF | dataE0E7 | dataE8EB | dataECEC => exact .inr (.inr rfl)
  all_goals exact .inr (.inl ⟨_, _, rfl⟩)

theorem eq_sentinel_of_space {i : Instr} (h : i.space = .rxError) : i = .sentinel := by
  cases i <;> cases h
  rfl

theorem eq_frameD2H_of_space {i : Instr} (h : i.space = .frameD2H) : ∃ b p, i = .frameD2H b p := by
  cases i <;> cases h
  exact ⟨_, _, rfl⟩

theorem eq_frameH2D_of_space {i : Instr} (h : i.space = .frameH2D) : ∃ b p, i = .frameH2D b p := by
  cases i <;> cases h
  exact ⟨_, _, rfl⟩

/-! ### The spaces from outside the engine -/

theorem decodeLink_space : ∀ b : Byte, (decodeLink b).space = .link := by decide

theorem eq_resendCode_of_decodeLink : ∀ b : Byte, decodeLink b = .cmdResend → b = Config.resendCode := by decide

theorem decodeResponse_space {b : Byte} {i : Instr} (h : decodeResponse b = .ok i) : i.space = .response := by
  unfold decodeResponse at h
  split_ifs at h <;> cases h <;> rfl

theorem classify_space (b : Byte) : (classify b).space = .rxError ∨ (classify b).space = .link := by
  rw [classify_eq]
  split
  · exact .inl rfl
  · exact .inr (decodeLink_space b)

/-- A byte that the foreground handles is not the engine's Resend (R284). -/
theorem classify_ne_resend {b : Byte} (h : ¬(b = Config.resendCode ∧ linkClass b = .command)) :
    classify b ≠ .cmdResend := by
  rw [classify_eq]
  split
  · exact nofun
  · next hne =>
    intro hr
    obtain rfl := eq_resendCode_of_decodeLink b hr
    exact h ⟨rfl, linkClass_eq_command.mpr ⟨hne, by decide⟩⟩

/-- The instructions the foreground runs: port operations, response bytes, and the link bytes but for the Resend, which
is the engine's (R284). -/
def Instr.OfForeground (i : Instr) : Prop :=
  i.space = .port ∨ i.space = .response ∨ i.space = .rxError ∨ i.space = .link ∧ i ≠ .cmdResend

/-- What the foreground keeps, for a state property: its own variables and the request word are not looked at, and the
instructions it runs keep it. -/
structure ForegroundInvariant (P : State → Prop) : Prop where
  own : ∀ {s t : State}, P s → t = { s with req := t.req, fg := t.fg } → P t
  exec : ∀ {s t : State} {i : Instr}, Instr.OfForeground i → Machine.exec i s = .next t → P s → P t

theorem afterLinkError_own (s : State) : ∃ fg, afterLinkError s = { s with fg := fg } := by
  unfold afterLinkError
  split <;> exact ⟨_, rfl⟩

theorem debounce_own (w : Word) (s : State) : ∃ fg, debounce w s = { s with fg := fg } := by
  by_cases h : (if s.fg.count = 0 ∨ (w - s.fg.w0).toNat > Config.windowTicks then 1 else s.fg.count + 1) = 3
  · exact ⟨_, if_pos h⟩
  · exact ⟨_, if_neg h⟩

namespace ForegroundInvariant
variable {P : State → Prop} (hP : ForegroundInvariant P)
include hP

theorem portStep {req : Req} {s t : State} (h : portStep req s = .next t) (hs : P s) : P t :=
  hP.exec (.inl (decodePort_space req)) h (hP.own hs rfl)

/-- A port step of the loop, and then a change of the foreground's own variables. -/
theorem portStep_then {req : Req} {k : State → Outcome} {s t : State} (h : andThen (Machine.portStep req s) k = .next t)
    (hk : ∀ u, k u = .next t → P u → P t) (hs : P s) : P t := by
  obtain ⟨u, hu, ht⟩ := andThen_eq_next.mp h
  exact hk u ht (hP.portStep hu hs)

theorem handleByte {b : Byte} {s t : State} (h : handleByte b s = .next t) (hs : P s) : P t := by
  unfold Machine.handleByte at h
  split at h
  · cases h
  · next hne =>
    refine hP.exec ?_ h hs
    rcases classify_space b with hsp | hsp
    · exact .inr (.inr (.inl hsp))
    · exact .inr (.inr (.inr ⟨hsp, classify_ne_resend hne⟩))

theorem foregroundOp {q : Bool} {op : FgOp} {s t : State} (h : foregroundOp q op s = .next t) (hs : P s) : P t := by
  cases op <;> dsimp only [Machine.foregroundOp] at h
  case request req => exact hP.portStep h hs
  case respond b =>
    split at h
    · next i hi => exact hP.exec (.inr (.inl (decodeResponse_space hi))) h (hP.own hs rfl)
    · cases h
  case checkLinkError =>
    refine hP.portStep_then h (fun u hu hP' => ?_) hs
    obtain rfl := Host.Outcome.next.inj hu
    obtain ⟨fg, hfg⟩ := afterLinkError_own u
    exact hfg ▸ hP.own hP' rfl
  case takeByte =>
    refine hP.portStep_then h (fun u hu hP' => ?_) hs
    split at hu
    · exact hP.handleByte hu hP'
    · exact Host.Outcome.next.inj hu ▸ hP'
  case pollSource =>
    split at h
    · refine hP.portStep_then h (fun u hu hP' => ?_) hs
      obtain rfl := Host.Outcome.next.inj hu
      obtain ⟨fg, hfg⟩ := debounce_own u.resp.result u
      exact hfg ▸ hP.own hP' rfl
    · exact Host.Outcome.next.inj h ▸ hs
  case checkInbound | checkOutbound | waitDeadline =>
    refine hP.portStep_then h (fun u hu hP' => ?_) hs
    obtain rfl := Host.Outcome.next.inj hu
    split <;> exact hP.own hP' rfl
  case waitStart =>
    refine hP.portStep_then h (fun u hu hP' => ?_) hs
    obtain rfl := Host.Outcome.next.inj hu
    exact hP.own hP' rfl
  case waitTake =>
    refine hP.portStep_then h (fun u hu hP' => ?_) hs
    split at hu
    · exact hP.handleByte hu (hP.own hP' rfl)
    · obtain rfl := Host.Outcome.next.inj hu
      exact hP.own hP' rfl

theorem foregroundStep {q : Bool} {s t : State} (h : foregroundStep q s = .next t) (hs : P s) : P t := by
  cases htodo : s.fg.todo
  case nil =>
    rw [foregroundStep_nil htodo] at h
    exact hP.foregroundOp h (hP.own hs rfl)
  case cons op rest =>
    rw [foregroundStep_cons htodo] at h
    exact hP.foregroundOp h (hP.own hs rfl)

end ForegroundInvariant

/-! ### What the foreground leaves alone -/

/-- What only the engine writes is as it was in `s` (R44), and so is the script; `LERR` may have been cleared. -/
structure State.SameEngineSide (s t : State) : Prop where
  registers : t.registers = s.registers
  outRd : t.outq.rd = s.outq.rd
  inWr : t.inq.wr = s.inq.wr
  inSlot : t.inq.slot = s.inq.slot
  lerr : t.lerr = s.lerr ∨ t.lerr = false
  script : t.script = s.script

theorem State.SameEngineSide.refl (s : State) : s.SameEngineSide s := ⟨rfl, rfl, rfl, rfl, .inl rfl, rfl⟩

theorem State.SameEngineSide.trans {s t u : State} (h : s.SameEngineSide t) (h' : t.SameEngineSide u) :
    s.SameEngineSide u where
  registers := h'.registers.trans h.registers
  outRd := h'.outRd.trans h.outRd
  inWr := h'.inWr.trans h.inWr
  inSlot := h'.inSlot.trans h.inSlot
  lerr := h'.lerr.elim (fun e => e ▸ h.lerr) .inr
  script := h'.script.trans h.script

theorem State.sameEngineSide_enqueueKey (s : State) (b : Byte) (next : List FgOp) :
    s.SameEngineSide (s.enqueueKey b next) := by
  unfold State.enqueueKey
  dsimp only
  split <;> exact ⟨rfl, s.outq.enq_rd b, rfl, rfl, .inl rfl, rfl⟩

theorem State.sameEngineSide_takeData (s : State) : s.SameEngineSide s.takeData := by
  unfold State.takeData
  split <;> exact ⟨rfl, rfl, rfl, rfl, .inl rfl, rfl⟩

/-- A port operation writes a response and at most one field of the foreground's (R250 to R264). -/
theorem exec_port_sameEngineSide {s t : State} {i : Instr} (hi : i.space = .port) (h : exec i s = .next t) :
    s.SameEngineSide t := by
  cases i <;> cases hi
  all_goals obtain rfl := Host.Outcome.next.inj h
  case outEnq b => exact ⟨rfl, s.outq.enq_rd b, rfl, rfl, .inl rfl, rfl⟩
  case inDeq => exact ⟨rfl, rfl, s.inq.deq_wr, s.inq.deq_slot, .inl rfl, rfl⟩
  case lerrClr => exact ⟨rfl, rfl, rfl, rfl, .inr rfl, rfl⟩
  all_goals exact ⟨rfl, rfl, rfl, rfl, .inl rfl, rfl⟩

theorem portStep_sameEngineSide {req : Req} {s t : State} (h : portStep req s = .next t) : s.SameEngineSide t := by
  have hreq : s.SameEngineSide { s with req := req } := ⟨rfl, rfl, rfl, rfl, .inl rfl, rfl⟩
  exact hreq.trans (exec_port_sameEngineSide (decodePort_space req) h)

/-- What the foreground runs leaves the engine's side alone (R44, R280). -/
theorem exec_sameEngineSide {s t : State} {i : Instr} (hi : Instr.OfForeground i) (h : exec i s = .next t) :
    s.SameEngineSide t := by
  rcases hi with hsp | hsp | hsp | ⟨hsp, hne⟩
  · exact exec_port_sameEngineSide hsp h
  · rcases exec_response_cases hsp s with ⟨b, h'⟩ | ⟨b, next, h'⟩ <;>
      obtain rfl := Host.Outcome.next.inj (h.symm.trans h')
    · exact ⟨rfl, s.outq.enq_rd b, rfl, rfl, .inl rfl, rfl⟩
    · exact s.sameEngineSide_enqueueKey b next
  · obtain rfl := eq_sentinel_of_space hsp
    obtain rfl := Host.Outcome.next.inj h
    exact ⟨rfl, rfl, rfl, rfl, .inl rfl, rfl⟩
  · rcases exec_link_cases hsp s with ⟨hr, -⟩ | ⟨bytes, after, h'⟩ | h'
    · exact absurd hr hne
    · obtain rfl := Host.Outcome.next.inj (h.symm.trans h')
      exact ⟨rfl, rfl, rfl, rfl, .inl rfl, rfl⟩
    · obtain rfl := Host.Outcome.next.inj (h.symm.trans h')
      exact s.sameEngineSide_takeData

theorem sameEngineSide_foregroundInvariant (s : State) : ForegroundInvariant s.SameEngineSide where
  own {u t} h ht := h.trans (by rw [ht]; exact ⟨rfl, rfl, rfl, rfl, .inl rfl, rfl⟩)
  exec hi h hs := hs.trans (exec_sameEngineSide hi h)

theorem foregroundStep_sameEngineSide {q : Bool} {s t : State} (h : foregroundStep q s = .next t) : s.SameEngineSide t :=
  (sameEngineSide_foregroundInvariant s).foregroundStep h (.refl s)

/-- Settles O59: the loop is made of instructions that keep to the port. -/
theorem foregroundKeepsToThePort : Obligations.ForegroundKeepsToThePort := by
  intro s t rest q hs h
  rw [step_of_script hs] at h
  obtain ⟨hreg, hrd, hwr, hslot, hlerr, -⟩ := foregroundStep_sameEngineSide h
  obtain ⟨hst, hph, hgen, hcnt, hpar, hsh, hclk, hdat, hticks⟩ := State.registers_eq_iff.mp hreg
  exact ⟨hst, hph, hgen, hcnt, hpar, hsh, hclk, hdat, hticks, hrd, hwr, hslot, hlerr⟩

/-! ### The step that is due -/

theorem decode_external_space {sp : Space} {w : Nat} {i : Instr} (hx : Item.external (.word sp w))
    (h : decode sp w = .ok i) : i.space = sp := by
  unfold decode at h
  split at h
  · rcases hx with rfl | rfl | rfl | rfl | rfl | rfl
    · exact Except.ok.inj h ▸ decodePort_space _
    · dsimp only [decodeD2H] at h
      split at h <;> cases h
      rfl
    · dsimp only [decodeH2D] at h
      split at h <;> cases h
      rfl
    · exact Except.ok.inj h ▸ decodeLink_space _
    · dsimp only [decodeRxError] at h
      split at h <;> cases h
      rfl
    · exact decodeResponse_space h
  · cases h

theorem nextItem_external {s : State} (hx : s.externalScript) : Item.external (nextItem s) := by
  unfold nextItem
  split
  · trivial
  · next hs => exact hx _ (by simp [hs])

theorem takeItem_registers (s : State) : (takeItem s).registers = s.registers := by
  unfold takeItem
  split <;> rfl

theorem takeItem_script_subset (s : State) : (takeItem s).script ⊆ s.script := by
  unfold takeItem
  split
  · exact List.Subset.refl _
  · next hs => simp [hs]

/-! ### Every step keeps what depends on the engine and the script -/

namespace EngineInvariant
variable {P : State → Prop} (hP : EngineInvariant P)
include hP

theorem sameEngineSide {s t : State} (hs : P s) (h : s.SameEngineSide t) : P t :=
  hP.frame hs h.registers (h.script ▸ List.Subset.refl _)

/-- The word of an external space keeps the property: the foreground's instructions and the engine's Resend write no
register, and a frame is a run of ticks. -/
theorem exec {s t : State} {i : Instr} {w : Nat} (hi : Item.external (.word i.space w)) (h : exec i s = .next t)
    (hs : P s) : P t := by
  have foreground (hi : Instr.OfForeground i) : P t := hP.sameEngineSide hs (exec_sameEngineSide hi h)
  rcases hi with hi | hi | hi | hi | hi | hi
  · exact foreground (.inl hi)
  · obtain ⟨b, p, rfl⟩ := eq_frameD2H_of_space hi
    exact hP.tickInvariant.frameD2H h hs
  · obtain ⟨b, p, rfl⟩ := eq_frameH2D_of_space hi
    exact hP.tickInvariant.frameH2D h hs
  · by_cases hr : i = .cmdResend
    · subst hr
      exact Host.Outcome.next.inj h ▸ hP.frame hs rfl (List.Subset.refl _)
    · exact foreground (.inr (.inr (.inr ⟨hi, hr⟩)))
  · exact foreground (.inr (.inr (.inl hi)))
  · exact foreground (.inr (.inl hi))

theorem runEvent {e : Event} {s t : State} (h : runEvent e s = .next t) (hs : P s) : P t := by
  cases e
  case tick c d => exact hP.tick ((tickStep_eq_tick c d s).symm.trans h) (hP.tickInvariant.host c d hs)
  case port req c d => exact hP.sameEngineSide (hP.tickInvariant.host c d hs) (portStep_sameEngineSide h)
  case reset => exact Host.Outcome.next.inj h ▸ hP.reset hs
  case foreground q => exact hP.sameEngineSide hs (foregroundStep_sameEngineSide h)

theorem runItem {i : Item} {s t : State} (hi : Item.external i) (h : runItem i s = .next t) (hs : P s) : P t := by
  cases i
  case event e => exact hP.runEvent h hs
  case word sp w =>
    dsimp only [Machine.runItem] at h
    split at h
    · next i hd =>
      obtain rfl := decode_external_space hi hd
      exact hP.exec hi h hs
    · cases h

theorem step {s t : State} (hx : s.externalScript) (h : step s = .next t) (hs : P s) : P t :=
  hP.runItem (nextItem_external hx) h (hP.frame hs (takeItem_registers s) (takeItem_script_subset s))

end EngineInvariant

theorem externalScript_engineInvariant : EngineInvariant State.externalScript where
  frame hs _ hsub i hi := hs i (hsub hi)
  tick h hs := by rwa [State.externalScript, (tick_ticksTo h).script]
  reset hs := hs

theorem phaseOfTicks_engineInvariant : EngineInvariant State.phaseOfTicks where
  frame hs hr _ := by
    obtain ⟨-, hph, -, -, -, -, -, -, hticks⟩ := State.registers_eq_iff.mp hr
    rwa [State.phaseOfTicks, hph, hticks]
  tick {s t} h hs := by
    have hsum : (s.ticks + 1).setWidth 2 = s.ticks.setWidth 2 + 1 := BitVec.setWidth_add s.ticks 1 (by decide)
    rw [State.phaseOfTicks, (tick_ticksTo h).ph, (tick_ticksTo h).ticks, hsum, hs]
  reset _ := rfl

/-- Settles O47: each of the three is a property of the engine's registers and the script that every tick keeps. -/
theorem everyStepKeepsTheInvariants : Obligations.EveryStepKeepsTheInvariants := fun _ _ hx h =>
  ⟨externalScript_engineInvariant.step hx h hx, legal_engineInvariant.step hx h, phaseOfTicks_engineInvariant.step hx h⟩

/-! ### The reset -/

/-- Settles O46: the fields at reset are the idle state's defaults, and the reset step sets them all. -/
theorem resetIsLegal : Obligations.ResetIsLegal := by
  refine ⟨State.legal_of_reset rfl, rfl, ⟨rfl, rfl⟩, fun i h => ?_, nofun, rfl, fun s rest h => step_of_script h⟩
  exact absurd h (by decide : unlisted ≠ Config.resendCode)

/-! ### The stores stay canonical -/

theorem State.storesCanonical.of_sameSlots {s t : State} (hs : s.storesCanonical) (h : s.SameSlots t) :
    t.storesCanonical := by
  rwa [State.storesCanonical, h.1, h.2]

theorem State.storesCanonical.of_enq_outq {s t : State} (hs : s.storesCanonical)
    (h : (∃ b, t.outq = (s.outq.enq b).2) ∧ t.inq = s.inq) : t.storesCanonical := by
  obtain ⟨⟨b, ho⟩, hin⟩ := h
  exact ⟨ho ▸ Queue.enq_wf b hs.1, hin ▸ hs.2⟩

theorem handlerStep_storesCanonical (hd : Handler) {s : State} (hs : s.storesCanonical) :
    (handlerStep hd s).storesCanonical := by
  obtain ⟨-, -, -, hslot, -⟩ := handlerStep_frame hd s
  obtain ⟨hout, hin⟩ := hs
  refine ⟨hslot ▸ hout, ?_⟩
  rcases handlerStep_inq hd s with h | ⟨-, b, h⟩ <;> rw [h]
  · exact hin
  · exact Queue.enq_wf b hin

theorem tick_storesCanonical {s t : State} (h : tick s = .next t) (hs : s.storesCanonical) : t.storesCanonical := by
  rcases tick_cases h with ⟨-, rfl⟩ | ⟨-, rfl⟩ | ⟨-, rfl⟩ | ⟨-, hd, -, rfl⟩
  case inr.inl => exact hs
  case inr.inr.inr => exact handlerStep_storesCanonical hd hs
  all_goals cases s.gen <;> exact hs

theorem storesCanonical_tickInvariant : TickInvariant State.storesCanonical where
  host _ _ h := h
  wire _ h := h
  respond _ _ h := h
  tick := tick_storesCanonical

/-- Every instruction keeps the canonical form: it enqueues, it is a run of ticks, or it writes no slot. -/
theorem exec_storesCanonical {s t : State} {i : Instr} (h : exec i s = .next t) (hs : s.storesCanonical) :
    t.storesCanonical := by
  have hP := storesCanonical_tickInvariant
  cases i
  case outEnq b => exact hs.of_enq_outq (exec_enqueues_outq h <| .inr ⟨b, rfl⟩)
  case rspAck | rspResend | rspSelfTestPass | rspEcho | rspId1 | rspId2 | rspMake | rspBreakPrefix =>
    exact hs.of_enq_outq (exec_enqueues_outq h <| .inl (by simp))
  case qenq q =>
    cases q
    · exact hs.of_enq_outq (exec_enqueues_outq h <| .inl (by simp))
    · exact Host.Outcome.next.inj h ▸ ⟨hs.1, Queue.enq_wf _ hs.2⟩
  case receiveAck => exact Host.Outcome.next.inj h ▸ handlerStep_storesCanonical .receiveAck hs
  case high =>
    obtain ⟨hd, -, rfl⟩ := execHigh_cases h
    exact handlerStep_storesCanonical hd hs
  case frameD2H b p => exact hP.frameD2H h hs
  case frameH2D b p => exact hP.frameH2D h hs
  all_goals exact hs.of_sameSlots (exec_sameSlots h (by simp) nofun nofun nofun)

theorem storesCanonical_foregroundInvariant : ForegroundInvariant State.storesCanonical where
  own h ht := by rwa [State.storesCanonical, ht]
  exec _ := exec_storesCanonical

theorem runItem_storesCanonical {item : Item} {s t : State} (h : runItem item s = .next t) (hs : s.storesCanonical) :
    t.storesCanonical := by
  cases item
  case event e =>
    cases e
    case tick c d => exact exec_storesCanonical (s := s.withHost c d) h hs
    case port req c d => exact exec_storesCanonical (s := { s.withHost c d with req := req }) h hs
    case reset => exact Host.Outcome.next.inj h ▸ ⟨rfl, rfl⟩
    case foreground q => exact storesCanonical_foregroundInvariant.foregroundStep h hs
  case word sp w =>
    dsimp only [runItem] at h
    split at h
    · exact exec_storesCanonical h hs
    · cases h

/-- Settles O48: a step runs instructions, or resets both stores. -/
theorem everyStepKeepsStoresCanonical : Obligations.EveryStepKeepsStoresCanonical := by
  intro s t hs h
  have hu : (takeItem s).storesCanonical := by
    unfold takeItem
    split <;> exact hs
  exact runItem_storesCanonical h hu

/-! ### The byte dequeued last -/

/-- The slot behind the read cursor holds `b`: the byte dequeued last, where `r` was the cursor before (R43). -/
def Queue.Remembers (q : Queue) (r : Cursor) (b : Byte) : Prop := q.rd = r + 1 ∧ q.read r = b

/-- The write cursor is at the slot behind the read cursor only in a full queue. -/
theorem Queue.behind_ne_wr {q : Queue} {r : Cursor} (hrd : q.rd = r + 1) (h : q.count ≠ 9) : r ≠ q.wr := by
  rintro rfl
  have full : ∀ w : Cursor, (w - (w + 1)).val = 9 := by decide
  exact h (by rw [Queue.count, hrd, full])

theorem Queue.Remembers.enq {q : Queue} {r : Cursor} {b : Byte} (h : q.Remembers r b) (v : Byte) :
    (q.enq v).2.Remembers r b := by
  obtain ⟨hrd, hb⟩ := h
  by_cases hfull : q.count = 9
  · rw [Queue.enq_full v hfull]
    exact ⟨hrd, hb⟩
  · exact ⟨(q.enq_rd v).trans hrd, (q.enq_read_other v (Queue.behind_ne_wr hrd hfull)).trans hb⟩

theorem Queue.Remembers.fillAndClear {q : Queue} {r : Cursor} {b : Byte} (h : q.Remembers r b)
    (ops : List (Option Byte)) : (q.fillAndClear ops).Remembers r b := by
  induction ops generalizing q with
  | nil => exact h
  | cons o ops ih =>
    cases o with
    | some v => exact ih (h.enq v)
    | none => exact ih (q := q.clr) h

/-- An unqueue makes the byte behind the read cursor the front (R153). -/
theorem Queue.Remembers.peek_unq {q : Queue} {r : Cursor} {b : Byte} (h : q.Remembers r b) (hfull : q.count ≠ 9) :
    q.unq.2.peek = (.ok, b) := by
  obtain ⟨hrd, hb⟩ := h
  have hback : q.rd - 1 = r := by rw [hrd, add_sub_cancel_right]
  have hcount : ({ q with rd := q.rd - 1 } : Queue).count ≠ 0 := by
    have := Cursor.count_dec_rd q.rd q.wr hfull
    simp only [Queue.count]
    omega
  rw [Queue.unq_ok hfull, Queue.peek, if_neg hcount]
  exact congrArg (Status.ok, ·) ((congrArg q.read hback).trans hb)

/-- Settles O39: only a full queue's write cursor is at the slot of the byte dequeued last, and a full queue takes no
byte. -/
theorem resendFindsTheLastByte : Obligations.ResendFindsTheLastByte := by
  intro q ops hne hfull
  have hdeq : q.deq.2.2.Remembers q.rd (q.read q.rd) := by
    rw [Queue.deq_ok fun h => hne (q.count_eq_zero.mp h)]
    exact ⟨rfl, rfl⟩
  exact (hdeq.fillAndClear ops).peek_unq hfull

end Sys2Proof.Machine
end

section
/-! PROOFS. The bytes of a queue along a run of enqueues and dequeues (R78). -/
namespace Sys2Proof.Machine

/-- An enqueue moves the byte it accepts, if any, to the back of the queue; a full queue accepts none (R151). -/
theorem Queue.contents_append_accepted {q : Queue} (b : Byte) (hw : q.slot.wf = true) (later : List Byte) :
    q.contents ++ (if (q.enq b).1 = .ok then b :: later else later) = (q.enq b).2.contents ++ later := by
  by_cases hfull : q.count = 9
  · simp [Queue.enq_full b hfull]
  · have haccepted : (q.enq b).1 = .ok := by rw [Queue.enq_ok b hfull]
    rw [if_pos haccepted, Queue.contents_enq b hw hfull, List.append_assoc, List.singleton_append]

/-- A dequeue returns the front of the queue and leaves the rest; an empty queue returns none (R152). -/
theorem Queue.contents_eq_returned_append (q : Queue) :
    q.contents = (if q.deq.1 = .ok then [q.deq.2.1] else []) ++ q.deq.2.2.contents := by
  by_cases hempty : q.count = 0
  · simp [Queue.deq_empty hempty]
  · simp [Queue.deq_ok hempty, Queue.contents_of_ne_empty hempty]

/-- Settles O40, by induction on the run: an enqueue takes from the bytes accepted and a dequeue adds to the bytes returned
exactly what it changes in the queue's contents. -/
theorem queuesAreFifo : Obligations.QueuesAreFifo := by
  intro ops
  induction ops with
  | nil => exact fun q _ => List.append_nil q.contents
  | cons o ops ih =>
    intro q hw
    cases o with
    | some b => exact (Queue.contents_append_accepted b hw _).trans (ih (q.enq b).2 (Queue.enq_wf b hw))
    | none =>
      have hrest := ih q.deq.2.2 (q.deq_slot.symm ▸ hw)
      rw [q.contents_eq_returned_append, List.append_assoc]
      simp only [Queue.runOps, hrest]
      split <;> rfl

end Sys2Proof.Machine
end

section
/-! PROOFS. The encodings: an instruction read back from its word, a word given back by its instruction, the reserved codes
(R100 to R116). -/
namespace Sys2Proof

/-! ### The instruction is read back from its word -/

/-- Settles O1, by the constructors of the instruction: one round trip per row with an operand; a row without one has a
single word, which the decoder reads by computation. -/
theorem decodeGivesBackEveryEncodedInstruction : Obligations.DecodeGivesBackEveryEncodedInstruction := by
  intro i
  cases i
  case outEnq imm => exact Laws.RoundTrip.outEnq imm
  case illegal op => exact Laws.RoundTrip.illegal op
  case qenq q => exact Laws.RoundTrip.qenq q
  case qdeq q => exact Laws.RoundTrip.qdeq q
  case qunq q => exact Laws.RoundTrip.qunq q
  case qclr q => exact Laws.RoundTrip.qclr q
  case qempty q => exact Laws.RoundTrip.qempty q
  case qfull q => exact Laws.RoundTrip.qfull q
  case qpeek q => exact Laws.RoundTrip.qpeek q
  case frameD2H data parity => exact Laws.RoundTrip.frameD2H data parity
  case frameH2D data parity => exact Laws.RoundTrip.frameH2D data parity
  case data007F low => exact Laws.RoundTrip.data007F low
  case data80BF low => exact Laws.RoundTrip.data80BF low
  case dataC0DF low => exact Laws.RoundTrip.dataC0DF low
  case dataE0E7 low => exact Laws.RoundTrip.dataE0E7 low
  case dataE8EB low => exact Laws.RoundTrip.dataE8EB low
  case sentinel => exact Laws.RoundTrip.sentinel
  all_goals exact fun _ => rfl

/-! ### The port's words -/

/-- `portWord` is the word of `op * 256 + imm` (R101). -/
theorem ofNat_eq_portWord (op imm : Byte) : BitVec.ofNat 16 (op.toNat * 256 + imm.toNat) = portWord op imm := by
  have hop := op.isLt
  have himm := imm.isLt
  apply BitVec.eq_of_toNat_eq
  rw [portWord, BitVec.toNat_append, ← Nat.shiftLeft_add_eq_or_of_lt himm, Nat.shiftLeft_eq]
  exact Nat.mod_eq_of_lt (by omega)

theorem portWord_toNat_div (op imm : Byte) : (portWord op imm).toNat / 256 = op.toNat := by
  rw [← Machine.toNat_opOf, Laws.RoundTrip.portWord_op]

theorem decodePort_portWord_illegal {op : Byte} (h : op ∉ legalOps) (imm : Byte) :
    decodePort (portWord op imm) = .illegal op := by
  simp only [legalOps, List.mem_cons, List.not_mem_nil, or_false, not_or] at h
  simp only [decodePort, Laws.RoundTrip.portWord_op, h, if_false]

/-- Settles O3: `OP` and `IMM` are read back from the word. -/
theorem portDecoderFollowsTheOpMap : Obligations.PortDecoderFollowsTheOpMap := by
  intro imm
  have read (op : Byte) : decodePort (BitVec.ofNat 16 (op.toNat * 256 + imm.toNat)) = decodePort (portWord op imm) :=
    congrArg decodePort (ofNat_eq_portWord op imm)
  have hop (op : Byte) := Laws.RoundTrip.portWord_op op imm
  refine ⟨(read 0x01).trans ?_, (read 0x02).trans ?_, (read 0x03).trans ?_, (read 0x04).trans ?_, (read 0x05).trans ?_,
    (read 0x13).trans ?_, (read 0x14).trans ?_, (read 0x15).trans ?_, (read 0x16).trans ?_, (read 0x20).trans ?_,
    (read 0x21).trans ?_, (read 0x30).trans ?_, (read 0x40).trans ?_,
    fun op h => (read op).trans (decodePort_portWord_illegal h imm)⟩
  · rw [decodePort, hop, Laws.RoundTrip.portWord_imm]; rfl
  all_goals rw [decodePort, hop]; rfl

/-- A request word is made of its two fields (R101). -/
theorem portWord_fields (req : Req) : portWord (req.extractLsb' 8 8) (req.extractLsb' 0 8) = req := by
  apply BitVec.eq_of_getLsbD_eq
  intro i hi
  rw [Laws.RoundTrip.portWord_bit]
  split
  · simp [*]
  · have hlt : i - 8 < 8 := by omega
    have hback : 8 + (i - 8) = i := by omega
    simp [hlt, hback]

/-- The port decoder's answer is well-formed, and its word has the operation byte of the word it was read from (R104). -/
theorem decodePort_sound (req : Req) :
    (decodePort req).wf = true ∧ encode (decodePort req) / 256 = req.toNat / 256 := by
  rw [← portWord_fields req, portWord_toNat_div]
  generalize req.extractLsb' 8 8 = op, req.extractLsb' 0 8 = imm
  by_cases h : op ∈ legalOps
  · simp only [legalOps, List.mem_cons, List.not_mem_nil, or_false] at h
    rcases h with rfl | rfl | rfl | rfl | rfl | rfl | rfl | rfl | rfl | rfl | rfl | rfl | rfl <;>
      simp [decodePort, Laws.RoundTrip.portWord_op, Instr.wf, encode, portWord_toNat_div]
  · rw [decodePort_portWord_illegal h]
    exact ⟨by simp [Instr.wf, wfIllegal, h], portWord_toNat_div op 0⟩

/-! ### The word is given back by its instruction -/

/-- The instruction is well-formed, belongs to the space, and has this word. -/
def Instr.HasWord (i : Instr) (sp : Space) (w : Nat) : Prop := i.wf = true ∧ i.space = sp ∧ encode i = w

theorem decodePhase_hasWord : ∀ c : BitVec 2, (decodePhase c).HasWord .phase c.toNat := by
  unfold Instr.HasWord
  decide

theorem decodeState_hasWord {c : BitVec 4} {i : Instr} (h : decodeState c = .ok i) : i.HasWord .state c.toNat := by
  unfold decodeState at h
  split at h
  · next hd hc =>
    cases h
    rw [Machine.Handler.code_of_ofCode hc]
    cases hd <;> exact ⟨rfl, rfl, rfl⟩
  · cases h

theorem decodeLine_hasWord {c : BitVec 3} {i : Instr} (h : decodeLine c = .ok i) : i.HasWord .line c.toNat := by
  have codes : ∀ c : BitVec 3, ∀ j ∈ (decodeLine c).toOption, j.HasWord .line c.toNat := by
    unfold Instr.HasWord
    decide
  exact codes c i (by rw [h]; rfl)

theorem decodeQueue_hasWord {c : BitVec 4} {i : Instr} (h : decodeQueue c = .ok i) : i.HasWord .queue c.toNat := by
  have codes : ∀ c : BitVec 4, ∀ j ∈ (decodeQueue c).toOption, j.HasWord .queue c.toNat := by
    unfold Instr.HasWord
    decide
  exact codes c i (by rw [h]; rfl)

theorem decodeLink_hasWord : ∀ b : Byte, (decodeLink b).HasWord .link b.toNat := by
  unfold Instr.HasWord
  decide

theorem decodeResponse_hasWord {b : Byte} {i : Instr} (h : decodeResponse b = .ok i) : i.HasWord .response b.toNat := by
  unfold decodeResponse at h
  split_ifs at h
  all_goals
    subst b
    cases h
    exact ⟨rfl, rfl, rfl⟩

theorem decodeRxError_hasWord {b : Byte} {i : Instr} (h : decodeRxError b = .ok i) : i.HasWord .rxError b.toNat := by
  unfold decodeRxError at h
  split_ifs at h with hb
  cases h
  exact ⟨rfl, rfl, hb ▸ rfl⟩

theorem d2hWord_fields (w : BitVec 11) (hS : w.getLsbD 0 = false) (hT : w.getLsbD 10 = true) :
    d2hWord (w.extractLsb' 1 8) (w.getLsbD 9) = w := by
  apply BitVec.eq_of_getLsbD_eq
  intro i hi
  simp only [d2hWord, BitVec.getLsbD_append]
  interval_cases i <;> simp_all

theorem h2dWord_fields (w : BitVec 12) (hS : w.getLsbD 0 = false) (hT : w.getLsbD 10 = true) (hA : w.getLsbD 11 = false) :
    h2dWord (w.extractLsb' 1 8) (w.getLsbD 9) = w := by
  apply BitVec.eq_of_getLsbD_eq
  intro i hi
  simp only [h2dWord, BitVec.getLsbD_append]
  interval_cases i <;> simp_all

theorem decodeD2H_hasWord {w : BitVec 11} {i : Instr} (h : decodeD2H w = .ok i) : i.HasWord .frameD2H w.toNat := by
  unfold decodeD2H at h
  dsimp only at h
  split_ifs at h with hbits
  obtain ⟨hS, hT, hP⟩ := hbits
  cases h
  exact ⟨hP, rfl, congrArg BitVec.toNat (d2hWord_fields w hS hT)⟩

theorem decodeH2D_hasWord {w : BitVec 12} {i : Instr} (h : decodeH2D w = .ok i) : i.HasWord .frameH2D w.toNat := by
  unfold decodeH2D at h
  dsimp only at h
  split_ifs at h with hbits
  obtain ⟨hS, hT, hA⟩ := hbits
  cases h
  exact ⟨rfl, rfl, congrArg BitVec.toNat (h2dWord_fields w hS hT hA)⟩

/-- Settles O2, space by space: the decoder of each answers instructions that have the word it read. -/
theorem decodedWordsHaveOneMeaning : Obligations.DecodedWordsHaveOneMeaning := by
  intro sp w i h
  unfold decode at h
  split at h
  · next hw =>
    have hval : (BitVec.ofNat sp.width w).toNat = w := by rw [BitVec.toNat_ofNat, Nat.mod_eq_of_lt hw]
    have outside (hsp : sp ≠ .port) (hi : i.HasWord sp (BitVec.ofNat sp.width w).toNat) :
        i.wf = true ∧ i.space = sp ∧ w < 2 ^ sp.width ∧
        (sp ≠ .port → encode i = w) ∧ (sp = .port → encode i / 256 = w / 256) := by
      obtain ⟨hwf, hspace, henc⟩ := hi
      exact ⟨hwf, hspace, hw, fun _ => henc.trans hval, fun hp => absurd hp hsp⟩
    cases sp
    case port =>
      cases h
      obtain ⟨hwf, henc⟩ := decodePort_sound (BitVec.ofNat 16 w)
      exact ⟨hwf, Machine.decodePort_space _, hw, fun hp => absurd rfl hp, fun _ => henc.trans (congrArg (· / 256) hval)⟩
    case phase => exact outside nofun (Except.ok.inj h ▸ decodePhase_hasWord _)
    case link => exact outside nofun (Except.ok.inj h ▸ decodeLink_hasWord _)
    case state => exact outside nofun (decodeState_hasWord h)
    case line => exact outside nofun (decodeLine_hasWord h)
    case queue => exact outside nofun (decodeQueue_hasWord h)
    case frameD2H => exact outside nofun (decodeD2H_hasWord h)
    case frameH2D => exact outside nofun (decodeH2D_hasWord h)
    case rxError => exact outside nofun (decodeRxError_hasWord h)
    case response => exact outside nofun (decodeResponse_hasWord h)
  · cases h

/-! ### Words written out, and reserved codes -/

/-- Settles O4: each word is evaluated by its space's decoder. -/
theorem writtenOutWordsDecode : Obligations.WrittenOutWordsDecode :=
  ⟨rfl, rfl, rfl, rfl, rfl, rfl, rfl, rfl, rfl, rfl⟩

/-- Settles O5: the reserved codes by the decoders' tables, the refusal by the step that is due. -/
theorem reservedCodesAreRefused : Obligations.ReservedCodesAreRefused := by
  refine ⟨by decide, by decide, by decide, fun s rest sp w why hs hd => ?_⟩
  rw [Machine.step_of_script hs]
  simp only [Machine.runItem, hd]

end Sys2Proof
end

section
/-! PROOFS. The queue micro-operations that write (R151 to R154), and the reply that replaces `OUTQ` (R282, R115, R118). -/
namespace Sys2Proof.Machine

/-! ### The queue micro-operations -/

theorem reqImm_eq_setWidth (req : Req) : reqImm req = req.setWidth 8 :=
  BitVec.setWidth_eq_extractLsb' (by decide) |>.symm

theorem byteResult_eq_ofNat (b : Byte) : byteResult b = BitVec.ofNat 32 b.toNat := (BitVec.ofNat_toNat 32 b).symm

/-- A dequeue, whatever queue it is on, by whether the cursors meet (R152). -/
theorem execQdeq_of_ne {s : State} {q : QSel} (h : (s.queue q).rd ≠ (s.queue q).wr) :
    execQdeq q s = .next ((s.withQueue q { s.queue q with rd := (s.queue q).rd + 1 }).respond .ok
      (BitVec.ofNat 32 ((s.queue q).read (s.queue q).rd).toNat)) := by
  have hne : (s.queue q).count ≠ 0 := fun h0 => h ((Queue.count_eq_zero _).mp h0)
  simp only [execQdeq, Queue.deq_ok hne, byteResult_eq_ofNat]

theorem execQdeq_of_eq {s : State} {q : QSel} (h : (s.queue q).rd = (s.queue q).wr) :
    execQdeq q s = .next (s.respond .empty 0) := by
  have h0 : (s.queue q).count = 0 := (Queue.count_eq_zero _).mpr h
  have hsame : s.withQueue q (s.queue q) = s := by cases q <;> rfl
  simp only [execQdeq, Queue.deq_empty h0, hsame]
  rfl

/-- Settles O36: a micro-operation is the queue's primitive, and its answer is driven as a response. -/
theorem queueMicroOperationsAct : Obligations.QueueMicroOperationsAct := by
  intro s b
  refine ⟨fun hb => ?_, fun hb => by rw [hb]; rfl, execQdeq_of_ne (q := .outq), execQdeq_of_eq (q := .outq),
    execQdeq_of_ne (q := .inq), execQdeq_of_eq (q := .inq), fun h => ?_, fun h => ?_, rfl, rfl, rfl⟩
  · rw [hb, ← reqImm_eq_setWidth]
    rfl
  · rw [exec, execQunq, Queue.unq_ok h]
    rfl
  · rw [exec, execQunq, Queue.unq_full h]
    rfl

/-! ### The steps of a reply -/

theorem foregroundStep_request {s : State} {req : Req} {rest : List FgOp} (h : s.fg.todo = .request req :: rest)
    (q : Bool) :
    foregroundStep q s = exec (decodePort req) { s with req := req, fg := { s.fg with todo := rest } } :=
  foregroundStep_cons h q

theorem foregroundStep_respond {s : State} {b : Byte} {i : Instr} {rest : List FgOp} (h : s.fg.todo = .respond b :: rest)
    (hb : decodeResponse b = .ok i) (q : Bool) :
    foregroundStep q s = exec i { s with req := portWord 0x01 b, fg := { s.fg with todo := rest } } := by
  rw [foregroundStep_cons h, foregroundOp, hb]

theorem foregroundStep_respond_refused {s : State} {b : Byte} {why : Reject} {rest : List FgOp}
    (h : s.fg.todo = .respond b :: rest) (hb : decodeResponse b = .error why) (q : Bool) :
    foregroundStep q s = .refused (.undecodable why) := by
  rw [foregroundStep_cons h, foregroundOp, hb]

/-- A port transaction always ends in a next state (R250). -/
theorem portStep_completes (req : Req) (s : State) : ∃ t, portStep req s = .next t := by
  obtain ⟨r, ⟨⟨b, h⟩, -⟩ | ⟨h, -⟩ | ⟨h, -⟩ | ⟨h, -⟩ | h⟩ := portStep_cases req s <;> exact ⟨_, h⟩

theorem exec_response_completes {i : Instr} (h : i.space = .response) (s : State) : ∃ t, exec i s = .next t := by
  rcases exec_response_cases h s with ⟨b, h'⟩ | ⟨b, next, h'⟩ <;> exact ⟨_, h'⟩

/-- The foreground is somewhere in the steps of a reply that began in `s`: `rest` is what it has still to do, `OUTQ` is `q`,
and the fields that a reply does not touch are as they were. -/
structure State.Replying (s : State) (rest : List FgOp) (q : Queue) (t : State) : Prop where
  todo : t.fg.todo = rest
  outq : t.outq = q
  inq : t.inq = s.inq
  lerr : t.lerr = s.lerr
  ticks : t.ticks = s.ticks

namespace State.Replying
variable {s t : State} {rest : List FgOp} {q : Queue}

theorem clear (h : s.Replying (.request (portWord 0x02 0) :: rest) q t) (k : Bool) :
    Reaches (s.Replying rest q.clr) (foregroundStep k t) := by
  obtain ⟨htodo, rfl, hinq, hlerr, hticks⟩ := h
  exact ⟨_, foregroundStep_request htodo k, rfl, rfl, hinq, hlerr, hticks⟩

theorem respond {b : Byte} {i : Instr} (hb : decodeResponse b = .ok i) (hi : ∀ u, exec i u = .next (u.enqueue b))
    (k : Bool) (h : s.Replying (.respond b :: rest) q t) :
    Reaches (s.Replying rest (q.enq b).2) (foregroundStep k t) := by
  obtain ⟨htodo, rfl, hinq, hlerr, hticks⟩ := h
  exact ⟨_, (foregroundStep_respond htodo hb k).trans (hi _), rfl, rfl, hinq, hlerr, hticks⟩

end State.Replying

/-! ### What a reply leaves in `OUTQ` -/

theorem Queue.count_enq {q : Queue} (b : Byte) (h : q.count ≠ 9) : (q.enq b).2.count = q.count + 1 := by
  rw [Queue.enq_ok b h]
  exact Cursor.count_inc_wr q.rd q.wr h

theorem Queue.count_clr (q : Queue) : q.clr.count = 0 := (Queue.count_eq_zero _).mpr rfl

theorem Queue.contents_clr (q : Queue) : q.clr.contents = [] := by
  rw [Queue.contents, q.count_clr]
  rfl

/-- A cleared queue holds the bytes that are then enqueued, and no other (R282). -/
theorem Queue.contents_clr_enq_enq {q : Queue} (hw : q.slot.wf = true) (b c : Byte) :
    ((q.clr.enq b).2.enq c).2.contents = [b, c] := by
  have h0 : q.clr.count ≠ 9 := by simp [q.count_clr]
  have h1 : (q.clr.enq b).2.count ≠ 9 := by simp [Queue.count_enq b h0, q.count_clr]
  have hw0 : q.clr.slot.wf = true := hw
  rw [Queue.contents_enq c (Queue.enq_wf b hw0) h1, Queue.contents_enq b hw0 h0, q.contents_clr]
  rfl

/-- The reply of two bytes, its three steps taken at once (R118, R282). -/
theorem reply_replaces_outq {s : State} {cmd i j : Instr} {b c : Byte} (hw : s.outq.slot.wf = true)
    (hcmd : exec cmd s = .next (s.reply [b, c] []))
    (hb : decodeResponse b = .ok i) (hi : ∀ u, exec i u = .next (u.enqueue b))
    (hc : decodeResponse c = .ok j) (hj : ∀ u, exec j u = .next (u.enqueue c)) (q1 q2 q3 : Bool) :
    ∃ t, andThen (andThen (andThen (exec cmd s) (foregroundStep q1)) (foregroundStep q2)) (foregroundStep q3) = .next t ∧
      t.outq.contents = [b, c] ∧ t.inq = s.inq ∧ t.lerr = s.lerr ∧ t.ticks = s.ticks := by
  have start : Reaches (s.Replying (.request (portWord 0x02 0) :: .respond b :: .respond c :: s.endWait.fg.todo) s.outq)
      (exec cmd s) := ⟨_, hcmd, rfl, rfl, rfl, rfl, rfl⟩
  obtain ⟨t, ht, -, hout, hinq, hlerr, hticks⟩ :=
    ((start.andThen fun _ h => h.clear q1).andThen fun _ h => h.respond hb hi q2).andThen fun _ h => h.respond hc hj q3
  exact ⟨t, ht, hout ▸ Queue.contents_clr_enq_enq hw b c, hinq, hlerr, hticks⟩

/-- Settles O55: the three steps of a reply, and the step for each kind of entry in the list. -/
theorem repliesReplaceTheQueue : Obligations.RepliesReplaceTheQueue := by
  refine ⟨fun s q1 q2 q3 hw => ⟨?_, ?_⟩, fun s q req rest h => ⟨?_, foregroundStep_request h q⟩, fun s q b rest h => ?_⟩
  · exact reply_replaces_outq hw rfl rfl (fun _ => rfl) rfl (fun _ => rfl) q1 q2 q3
  · exact reply_replaces_outq hw rfl rfl (fun _ => rfl) rfl (fun _ => rfl) q1 q2 q3
  · rw [foregroundStep_cons h]
    exact portStep_completes req _
  · have sends {code : Byte} {i : Instr} (hi : decodeResponse code = .ok i) (hb : b = code) :
        (∃ t, foregroundStep q s = .next t) ∧
        foregroundStep q s = exec i { s with req := 0x01#8 ++ code, fg := { s.fg with todo := rest } } := by
      subst hb
      have hstep := foregroundStep_respond h hi q
      exact ⟨hstep ▸ exec_response_completes (decodeResponse_space hi) _, hstep⟩
    refine ⟨sends rfl, sends rfl, sends rfl, sends rfl, sends rfl, sends rfl, sends rfl, sends rfl, fun hb => ?_⟩
    simp only [List.mem_cons, List.not_mem_nil, or_false, not_or] at hb
    exact foregroundStep_respond_refused h (by simp only [decodeResponse, hb, if_false]) q

end Sys2Proof.Machine
end

section
/-! PROOFS. The two wire frames from a quiet engine, clock period by clock period (R111, R112, R199). -/
namespace Sys2Proof.Machine

/-! ### A clock period -/

/-- The state in which the HIGH tick of a clock period runs its handler, under the drive `(c, d)`. -/
def State.atHigh (s : State) (c d : Bool) : State :=
  { s with ph := 3, ticks := s.ticks + BitVec.ofNat 32 (3 - s.ph.toNat), hclk := c, hdat := d }

/-- The ticks of a period before its HIGH tick leave the clock as it was, released: either they are a whole pulse, or
there is no pulse (R181 to R183). -/
theorem ticksN_before_high {s : State} (hclk : s.clkOe = false) (hpulse : s.ph = 0 ∨ s.gen = false) :
    ticksN (3 - s.ph.toNat) s = .next (s.atHigh s.hclk s.hdat) := by
  have hph : s.ph = 0 ∨ s.ph = 1 ∨ s.ph = 2 ∨ s.ph = 3 := by
    generalize s.ph = p
    revert p
    decide
  rcases s with ⟨st, ph, gen, cnt, par, sh, lerr, clkOe, datOe, ticks⟩
  subst hclk
  rcases hpulse with rfl | rfl
  · cases gen <;>
      simp [ticksN, tick, execFall, execLow, execRise, State.atHigh, State.advance, State.holdClk, State.relClk,
        BitVec.add_assoc]
  · rcases hph with rfl | rfl | rfl | rfl <;>
      simp [ticksN, tick, execFall, execLow, execRise, State.atHigh, State.advance, BitVec.add_assoc]

/-- A clock period of an engine whose clock is released runs the handler of `ST` once (R184). -/
theorem period_eq {s : State} {h : Handler} (hst : s.st = h.code) (hclk : s.clkOe = false)
    (hpulse : s.ph = 0 ∨ s.gen = false) (c d : Bool) :
    period c d s = .next (handlerStep h (s.atHigh c d)).advance := by
  rw [period, ticksN_before_high hclk hpulse, andThen_next]
  exact execHigh_of_code (s := s.atHigh c d) hst

/-- The tick counter's phase comes round to 0 (R180). -/
theorem State.atHigh_advance_ph (s : State) (c d : Bool) : (s.atHigh c d).ph + 1 = 0 :=
  (by decide : (3 : BitVec 2) + 1 = 0)

theorem listen_of_period {n : Nat} {bits : List Bool} {s t : State} (hlen : bits.length ≠ 11)
    (h : period s.hclk s.hdat s = .next t) : listen (n + 1) bits s = listen n (bits ++ presented s) t := by
  rw [listen, if_neg hlen, h, andThen_next]

theorem drive_of_period {c d : Bool} {ds : List (Bool × Bool)} {bits : List Bool} {s t : State}
    (h : period c d s = .next t) : drive ((c, d) :: ds) bits s = drive ds (bits ++ presented s) t := by
  rw [drive, h, andThen_next]

/-- The state at the start of a clock period of a transfer: the clock is generated, and released. -/
structure State.Clocked (s : State) : Prop where
  ph : s.ph = 0
  gen : s.gen = true
  clkOe : s.clkOe = false

theorem State.Clocked.presented {s : State} (hs : s.Clocked) : presented s = [s.dat] := if_pos ⟨hs.ph, hs.gen⟩

theorem State.Clocked.period {s : State} (hs : s.Clocked) {h : Handler} (hst : s.st = h.code) (c d : Bool) :
    period c d s = .next (handlerStep h (s.atHigh c d)).advance :=
  period_eq hst hs.clkOe (.inl hs.ph) c d

theorem State.Clocked.atHigh {s : State} (hs : s.Clocked) (c d : Bool) :
    s.atHigh c d = { s with ph := 3, ticks := s.ticks + 3, hclk := c, hdat := d } := by
  rw [State.atHigh, hs.ph]
  rfl

theorem ticks_after_period (t : Word) (k : Nat) :
    t + BitVec.ofNat 32 (4 * k) + 3 + 1 = t + BitVec.ofNat 32 (4 * (k + 1)) := by
  rw [Nat.mul_succ, BitVec.ofNat_add, BitVec.add_assoc, BitVec.add_assoc]
  rfl

/-- The ticks of the period already begun and of `n` whole ones after it (R118). -/
theorem ticks_after_periods (t : Word) (p : BitVec 2) (n : Nat) :
    t + BitVec.ofNat 32 (3 - p.toNat) + 1 + BitVec.ofNat 32 (4 * n) = t + BitVec.ofNat 32 (4 * (n + 1) - p.toNat) := by
  have hp := p.isLt
  have hsum : 4 * (n + 1) - p.toNat = 3 - p.toNat + 1 + 4 * n := by omega
  rw [hsum, BitVec.ofNat_add, BitVec.ofNat_add, BitVec.add_assoc, BitVec.add_assoc, BitVec.add_assoc]
  rfl

/-- The report of a frame whose bits were on the wire (log entry 8). -/
theorem State.report_self {s : State} {bits : List Bool} (h : s.wire = bits) :
    (s.report bits).resp = { status := .ok, result := 1 } := by
  simp [State.report, boolResult, h]

/-! ### The bits of a frame -/

/-- The start bit and the data bits of a frame, by position: positions 0..8 of R111 and of R112. -/
def startOrData (b : Byte) : Nat → Bool
  | 0 => false
  | k + 1 => b.getLsbD k

/-- `PAR` after `k` data bits of a byte (R35). -/
def parityOfFirst (b : Byte) (k : Nat) : Bool := ((List.range k).countP fun i => b.getLsbD i) % 2 == 1

theorem parityOfFirst_succ (b : Byte) (k : Nat) : parityOfFirst b (k + 1) = (parityOfFirst b k ^^ b.getLsbD k) := by
  unfold parityOfFirst
  rw [List.range_succ, List.countP_append, List.countP_singleton]
  cases b.getLsbD k
  · simp
  · rcases Nat.mod_two_eq_zero_or_one ((List.range k).countP fun i => b.getLsbD i) with h | h <;> simp [Nat.add_mod, h]

theorem parityOfFirst_eight (b : Byte) : parityOfFirst b 8 = !(popcount b % 2 == 0) := by
  change (popcount b % 2 == 1) = _
  rcases Nat.mod_two_eq_zero_or_one (popcount b) with h | h <;> rw [h] <;> rfl

/-- The bit count along the eight data bits (R189, R192). -/
theorem ofNat_count_succ {k : Nat} (hk : k < 8) :
    BitVec.ofNat 4 (8 - k) ≠ 0 ∧ BitVec.ofNat 4 (8 - k) - 1 = BitVec.ofNat 4 (8 - (k + 1)) := by
  interval_cases k <;> decide

/-- The handler after a data bit: `last` after the eighth, `bit` again before that. -/
theorem code_after_bit {k : Nat} (hk : k < 8) (last bit : Handler) :
    (if BitVec.ofNat 4 (8 - (k + 1)) = 0 then last.code else bit.code) = (if k + 1 = 8 then last else bit).code := by
  interval_cases k <;> rfl

/-! ### The Idle decision -/

/-- What the Idle decision at a HIGH tick in `s` leaves in `t`, with data high and the host off the clock (R186): nothing
to send, or the start of a send. -/
structure State.Decides (s t : State) : Prop where
  frame : s.TicksTo t
  inq : t.inq = s.inq
  lerr : t.lerr = s.lerr
  clkOe : t.clkOe = false
  par : t.par = false
  idle : s.outq.rd = s.outq.wr ∨ s.lerr = true →
    t.st = 0 ∧ t.gen = false ∧ t.datOe = false ∧ t.cnt = 0 ∧ t.sh = 0x00 ∧ t.outq = s.outq
  send : s.outq.rd ≠ s.outq.wr → s.lerr = false →
    t.st = 2 ∧ t.gen = true ∧ t.datOe = true ∧ t.cnt = 8 ∧ t.sh = s.outq.read s.outq.rd ∧
      t.outq = { s.outq with rd := s.outq.rd + 1 }

theorem State.maySend_iff {s : State} (hd : s.dat = true) :
    s.maySend = true ↔ s.outq.rd ≠ s.outq.wr ∧ s.lerr = false := by
  simp [State.maySend, hd, Queue.isEmpty_eq]

theorem State.decides_idleLogic {s : State} (hc : s.hclk = true) (hd : s.dat = true) :
    s.Decides s.idleLogic.advance := by
  have frame : s.TicksTo s.idleLogic.advance := s.ticksTo_advance_handlerStep .idle
  have hrel : s.datOe = false := by
    simp only [State.dat, Bool.and_eq_true, Bool.not_eq_true'] at hd
    exact hd.1
  rcases s.idleLogic_cases with ⟨h, -⟩ | ⟨-, hsend, h⟩ | ⟨-, hsend, h⟩
  · simp [hc] at h
  · obtain ⟨hne, hlerr⟩ := (State.maySend_iff hd).mp hsend
    have hdeq := Queue.deq_ok fun h0 => hne (s.outq.count_eq_zero.mp h0)
    rw [h] at frame ⊢
    refine ⟨frame, rfl, rfl, rfl, rfl, fun h => ?_, fun _ _ => ⟨rfl, rfl, rfl, rfl, ?_, ?_⟩⟩
    · simp [hne, hlerr] at h
    · exact congrArg (·.2.1) hdeq
    · exact congrArg (·.2.2) hdeq
  · rw [h] at frame ⊢
    refine ⟨frame, rfl, rfl, rfl, rfl, fun _ => ⟨rfl, rfl, hrel, rfl, rfl, rfl⟩, fun hne hlerr => ?_⟩
    simp [(State.maySend_iff hd).mpr ⟨hne, hlerr⟩] at hsend

/-! ### Sending the bits -/

/-- The state of a send when `k` data bits of `b` were placed, from the state `u` at its start (R189). -/
def State.sending (u : State) (b : Byte) (k : Nat) : State :=
  { u with
    st := (if k = 8 then Handler.sendParity else .sendBit).code, cnt := BitVec.ofNat 4 (8 - k), par := parityOfFirst b k
    sh := b >>> k, datOe := !startOrData b k, ticks := u.ticks + BitVec.ofNat 32 (4 * k) }

theorem State.Clocked.sending {u : State} (hu : u.Clocked) (b : Byte) (k : Nat) : (u.sending b k).Clocked :=
  ⟨hu.ph, hu.gen, hu.clkOe⟩

/-- SendBit places the next data bit. -/
theorem period_sending {u : State} (hu : u.Clocked) (hc : u.hclk = true) (b : Byte) {k : Nat}
    (hk : k < 8) : period u.hclk u.hdat (u.sending b k) = .next (u.sending b (k + 1)) := by
  have hst : (u.sending b k).st = Handler.sendBit.code := by simp only [State.sending, if_neg hk.ne]
  obtain ⟨h0, hpred⟩ := ofNat_count_succ hk
  rw [(hu.sending b k).period hst, (hu.sending b k).atHigh]
  rcases sendBitStep_cases { u.sending b k with
    ph := 3, ticks := (u.sending b k).ticks + 3, hclk := u.hclk, hdat := u.hdat } with ⟨hclk, -⟩ | ⟨-, n, hn, h⟩
  · simp [State.clk, State.sending, hu.clkOe, hc] at hclk
  · obtain rfl := (hn h0).trans hpred
    have hsh : (b >>> k).getLsbD 0 = b.getLsbD k := by simp
    rw [handlerStep, h]
    simp only [State.advance, State.sending, if_neg hk.ne, code_after_bit hk, hsh, ← parityOfFirst_succ,
      ← BitVec.shiftRight_add, ticks_after_period, hu.ph]
    rfl

/-- The data bits of a send, with `n` periods left to listen to. -/
theorem listen_sending {u : State} (hu : u.Clocked) (hc : u.hclk = true) (hd : u.hdat = true) (b : Byte) (n : Nat)
    {k : Nat} (hk : k ≤ 8) :
    listen (n + k) [] (u.sending b 0) = listen n ((List.range k).map (startOrData b)) (u.sending b k) := by
  induction k generalizing n with
  | zero => rfl
  | succ k ih =>
    have hlen : ((List.range k).map (startOrData b)).length ≠ 11 := by
      rw [List.length_map, List.length_range]
      omega
    have hbit : (u.sending b k).dat = startOrData b k := by simp [State.dat, State.sending, hd]
    have hfuel : n + (k + 1) = n + 1 + k := by omega
    rw [hfuel, ih (n + 1) (by omega), listen_of_period hlen (period_sending hu hc b hk), (hu.sending b k).presented, hbit,
      List.range_succ, List.map_append, List.map_singleton]

/-- The state of a send when the parity bit was placed (R190). -/
def State.sentParity (u : State) (b : Byte) : State :=
  { u with
    st := Handler.sendStopBit.code, cnt := 0, par := parityOfFirst b 8, sh := 0, datOe := parityOfFirst b 8
    ticks := u.ticks + BitVec.ofNat 32 36 }

/-- The state of a send when the stop bit was placed (R191). -/
def State.sentStopBit (u : State) : State :=
  { u with
    st := Handler.idle.code, cnt := 0, par := false, sh := 0, datOe := false, ticks := u.ticks + BitVec.ofNat 32 40 }

theorem State.Clocked.sentParity {u : State} (hu : u.Clocked) (b : Byte) : (u.sentParity b).Clocked :=
  ⟨hu.ph, hu.gen, hu.clkOe⟩

theorem State.Clocked.sentStopBit {u : State} (hu : u.Clocked) : u.sentStopBit.Clocked := ⟨hu.ph, hu.gen, hu.clkOe⟩

theorem period_sendParity {u : State} (hu : u.Clocked) (hc : u.hclk = true) (b : Byte) :
    period u.hclk u.hdat (u.sending b 8) = .next (u.sentParity b) := by
  have hsh : b >>> 8 = 0 := BitVec.ushiftRight_eq_zero (Nat.le_refl 8)
  rw [(hu.sending b 8).period (h := .sendParity) rfl, (hu.sending b 8).atHigh, handlerStep, sendParityStep,
    if_neg (by simp [State.clk, State.sending, hu.clkOe, hc])]
  cases hp : parityOfFirst b 8 <;>
    simp [State.placeBit, parityBit, State.goto, State.relDat, State.holdDat, State.advance, State.sending,
      State.sentParity, hsh, hp, hu.ph, BitVec.add_assoc]

theorem period_sendStopBit {u : State} (hu : u.Clocked) (b : Byte) :
    period u.hclk u.hdat (u.sentParity b) = .next u.sentStopBit := by
  rw [(hu.sentParity b).period (h := .sendStopBit) rfl, (hu.sentParity b).atHigh, handlerStep]
  simp [State.enterIdle, State.relDat, State.advance, State.sentParity, State.sentStopBit, hu.ph, BitVec.add_assoc]

/-! ### The device to host frame -/

/-- A send heard from its start: its eleven bits, then the Idle decision (R199). -/
theorem listen_frame {u : State} (hu : u.Clocked) (hc : u.hclk = true) (hd : u.hdat = true) (b : Byte) :
    listen 11 [] (u.sending b 0) =
      .next { (u.sentStopBit.atHigh u.hclk u.hdat).idleLogic.advance with wire := frameBits b (!parityOfFirst b 8) } := by
  have hdata : (u.sending b 8).dat = b.getLsbD 7 := by simp [State.dat, State.sending, startOrData, hd]
  have hparity : (u.sentParity b).dat = !parityOfFirst b 8 := by simp [State.dat, State.sentParity, hd]
  have hstop : u.sentStopBit.dat = true := by simp [State.dat, State.sentStopBit, hd]
  rw [listen_sending hu hc hd b 3 (Nat.le_refl 8), listen_of_period (by simp) (period_sendParity hu hc b),
    (hu.sending b 8).presented, hdata, listen_of_period (s := u.sentParity b) (by simp) (period_sendStopBit hu b),
    (hu.sentParity b).presented, hparity,
    listen_of_period (s := u.sentStopBit) (by simp) (hu.sentStopBit.period (h := .idle) rfl _ _),
    hu.sentStopBit.presented, hstop]
  rfl

/-- Where the Idle decision leaves the engine is the start of the send. -/
theorem State.sending_zero {u : State} {b : Byte} (hst : u.st = 2) (hcnt : u.cnt = 8) (hpar : u.par = false)
    (hsh : u.sh = b) (hdat : u.datOe = true) : u.sending b 0 = u := by
  cases u
  simp_all [State.sending, startOrData, parityOfFirst, Handler.code]

/-- Settles O43: the Idle decision of the first period starts the send, the next ten periods place its bits, and the last
one presents the stop bit and decides again. -/
theorem sendPutsTheFrameOnTheWire : Obligations.SendPutsTheFrameOnTheWire := by
  intro s b p hp hst hgen hclk hdat hlerr hhc hhd hne hb
  rw [← Bool.not_not (popcount b % 2 == 0), ← parityOfFirst_eight] at hp
  have hfirst := listen_of_period (n := 11) (bits := []) (by simp)
    (period_eq (h := .idle) hst hclk (.inr hgen) s.hclk s.hdat)
  have hstart : (s.atHigh s.hclk s.hdat).Decides (handlerStep .idle (s.atHigh s.hclk s.hdat)).advance :=
    State.decides_idleLogic hhc (by simp [State.dat, State.atHigh, hdat, hhd])
  generalize (handlerStep .idle (s.atHigh s.hclk s.hdat)).advance = u at hfirst hstart
  obtain ⟨hust, hugen, hudat, hucnt, hush, huout⟩ := hstart.send hne hlerr
  have hu : u.Clocked := ⟨hstart.frame.ph.trans (s.atHigh_advance_ph _ _), hugen, hstart.clkOe⟩
  have huc : u.hclk = true := hstart.frame.hclk.trans hhc
  have hud : u.hdat = true := hstart.frame.hdat.trans hhd
  have hrun : listen 12 [] s = _ :=
    calc listen 12 [] s = listen 11 [] (u.sending b 0) := by
          rw [hfirst, State.sending_zero hust hucnt hstart.par (hush.trans hb) hudat, presented, if_neg (by simp [hgen])]
          rfl
      _ = _ := listen_frame hu huc hud b
  have hend : (u.sentStopBit.atHigh u.hclk u.hdat).Decides (u.sentStopBit.atHigh u.hclk u.hdat).idleLogic.advance :=
    State.decides_idleLogic huc (by simp [State.dat, State.atHigh, State.sentStopBit, hud])
  generalize (u.sentStopBit.atHigh u.hclk u.hdat).idleLogic.advance = t at hrun hend
  have hticks : t.ticks = s.ticks + BitVec.ofNat 32 (48 - s.ph.toNat) :=
    calc t.ticks = u.ticks + BitVec.ofNat 32 (4 * 11) := by
          rw [hend.frame.ticks, hu.sentStopBit.atHigh]
          exact ticks_after_period u.ticks 10
      _ = s.ticks + BitVec.ofNat 32 (48 - s.ph.toNat) := by
          rw [hstart.frame.ticks]
          exact ticks_after_periods s.ticks s.ph 11
  have hq : (u.sentStopBit.atHigh u.hclk u.hdat).outq = { s.outq with rd := s.outq.rd + 1 } := huout
  have hulerr : u.lerr = false := hstart.lerr.trans hlerr
  have hidle := hend.idle
  have hsend := hend.send
  have htwo : s.outq.rd + 1 + 1 = s.outq.rd + 2 := by rw [add_assoc]; rfl
  rw [hq] at hidle hsend
  rw [← htwo]
  exact ⟨({ t with wire := frameBits b p } : State).report (frameBits b p),
    by rw [exec, execFrameD2H, hrun, ← hp, andThen_next], rfl, State.report_self rfl,
    hend.frame.ph.trans (u.sentStopBit.atHigh_advance_ph _ _), hticks, hend.lerr.trans hulerr, hend.inq.trans hstart.inq,
    hend.frame.outSlot.trans hstart.frame.outSlot, hend.frame.outWr.trans hstart.frame.outWr, hend.clkOe, hend.par,
    hend.frame.fg.trans hstart.frame.fg, fun h => hidle (.inl h), fun h => hsend h hulerr⟩

/-! ### The host's request -/

/-- The state after the period in which an idle engine meets a held clock, `k` whole periods later, with the host's drive
of the data line at `d` (R186, R188). -/
def State.heldFor (s : State) (d : Bool) (k : Nat) : State :=
  { s with
    st := Handler.inhibited.code, ph := 0, cnt := 0, par := false, sh := 0, hclk := false, hdat := d
    ticks := s.ticks + BitVec.ofNat 32 (3 - s.ph.toNat) + 1 + BitVec.ofNat 32 (4 * k) }

/-- The state at the start of the first data bit of a host's frame (R188). -/
def State.requested (s : State) : State := { s.heldFor false 2 with gen := true }

/-- The state of a receive when `k` data bits of `b` were taken in, from the state `u` at its start (R192). -/
def State.receiving (u : State) (b : Byte) (k : Nat) : State :=
  { u with
    st := (if k = 8 then Handler.receiveParity else .receiveBit).code, cnt := BitVec.ofNat 4 (8 - k)
    par := parityOfFirst b k, sh := b <<< (8 - k), hclk := true, hdat := startOrData b k
    ticks := u.ticks + BitVec.ofNat 32 (4 * k) }

/-- The clock held, the data line pulled low, the clock released: the engine is ready for the first data bit (R112). -/
theorem drive_request {s : State} (hst : s.st = Handler.idle.code) (hgen : s.gen = false) (hclk : s.clkOe = false)
    (b : Byte) (ds : List (Bool × Bool)) :
    drive ((false, true) :: (false, false) :: (true, false) :: ds) [] s = drive ds [] (s.requested.receiving b 0) := by
  have hold : period false true s = .next (s.heldFor true 0) := by
    rw [period_eq hst hclk (.inr hgen), handlerStep]
    rcases (s.atHigh false true).idleLogic_cases with ⟨-, h⟩ | ⟨h, -⟩ | ⟨h, -⟩
    · rw [h]
      simp [State.heldFor, State.atHigh, State.enterIdle, State.advance, hgen, hclk]
    all_goals cases h
  have pull : period false false (s.heldFor true 0) = .next (s.heldFor false 1) := by
    rw [period_eq (s := s.heldFor true 0) (h := .inhibited) rfl hclk (.inl rfl), handlerStep, inhibitedStep,
      if_pos (by simp [State.clk, State.atHigh])]
    simp [State.heldFor, State.atHigh, State.advance, BitVec.add_assoc]
  have release : period true false (s.heldFor false 1) = .next (s.requested.receiving b 0) := by
    rw [period_eq (s := s.heldFor false 1) (h := .inhibited) rfl hclk (.inl rfl), handlerStep, inhibitedStep,
      if_neg (by simp [State.clk, State.atHigh, State.heldFor, hclk]), if_neg (by simp [State.dat, State.atHigh])]
    simp [State.requested, State.receiving, State.heldFor, State.atHigh, State.advance, BitVec.add_assoc, parityOfFirst,
      startOrData]
  have silent {t : State} (ht : t.gen = false) : presented t = [] := if_neg (by simp [ht])
  rw [drive_of_period hold, drive_of_period pull, drive_of_period release, silent hgen,
    silent (t := s.heldFor true 0) hgen, silent (t := s.heldFor false 1) hgen]
  rfl

/-! ### Receiving the bits -/

/-- A bit shifted in above the bits already there (R192). -/
theorem shiftIn_eq {b : Byte} {k : Nat} (hk : k < 8) :
    BitVec.ofBool (b.getLsbD k) ++ (b <<< (8 - k)).extractLsb' 1 7 = b <<< (8 - (k + 1)) := by
  apply BitVec.eq_of_getLsbD_eq
  intro i hi
  rw [BitVec.getLsbD_append, BitVec.getLsbD_extractLsb', BitVec.getLsbD_shiftLeft, BitVec.getLsbD_shiftLeft]
  by_cases h7 : i < 7
  · have hpos : 1 + i - (8 - k) = i - (8 - (k + 1)) := by omega
    have hlt : 1 + i < 8 - k ↔ i < 8 - (k + 1) := by omega
    have h1 : 1 + i < 8 := by omega
    simp [h7, hi, h1, hpos, hlt]
  · obtain rfl : i = 7 := by omega
    have hpos : 7 - (7 - k) = k := by omega
    have hle : ¬7 < 7 - k := by omega
    simp [hpos, hle]

theorem State.Clocked.receiving {u : State} (hu : u.Clocked) (b : Byte) (k : Nat) : (u.receiving b k).Clocked :=
  ⟨hu.ph, hu.gen, hu.clkOe⟩

/-- ReceiveBit takes in the next data bit. -/
theorem period_receiving {u : State} (hu : u.Clocked) (hdat : u.datOe = false) (b : Byte) {k : Nat} (hk : k < 8) :
    period true (b.getLsbD k) (u.receiving b k) = .next (u.receiving b (k + 1)) := by
  have hst : (u.receiving b k).st = Handler.receiveBit.code := by simp only [State.receiving, if_neg hk.ne]
  obtain ⟨h0, hpred⟩ := ofNat_count_succ hk
  rw [(hu.receiving b k).period hst, (hu.receiving b k).atHigh]
  obtain ⟨n, hn, h⟩ := receiveBitStep_cases { u.receiving b k with
    ph := 3, ticks := (u.receiving b k).ticks + 3, hclk := true, hdat := b.getLsbD k }
  obtain rfl := (hn h0).trans hpred
  rw [handlerStep, h]
  simp only [State.advance, State.receiving, State.dat, hdat, Bool.not_false, Bool.true_and, if_neg hk.ne,
    code_after_bit hk, shiftIn_eq hk, ← parityOfFirst_succ, ticks_after_period, hu.ph]
  rfl

/-- The data bits of a host's frame from position `k` on, with the drive `ds` after them. -/
theorem drive_receiving {u : State} (hu : u.Clocked) (hdat : u.datOe = false) (b : Byte) (ds : List (Bool × Bool))
    {k n : Nat} (hkn : k + n = 8) :
    drive ((List.range' k n).map (fun i => (true, b.getLsbD i)) ++ ds) ((List.range k).map (startOrData b))
        (u.receiving b k) =
      drive ds ((List.range 8).map (startOrData b)) (u.receiving b 8) := by
  induction n generalizing k with
  | zero =>
    obtain rfl : k = 8 := hkn
    rfl
  | succ n ih =>
    have hbit : (u.receiving b k).dat = startOrData b k := by simp [State.dat, State.receiving, hdat]
    rw [← ih (k := k + 1) (by omega), List.range'_succ, List.map_cons, List.cons_append,
      drive_of_period (period_receiving hu hdat b (by omega)), (hu.receiving b k).presented, hbit, List.range_succ,
      List.map_append, List.map_singleton]

/-! ### Parity and acknowledge -/

/-- The state of a receive when the parity bit `p` was taken in (R193). -/
def State.received (u : State) (b : Byte) (p : Bool) : State :=
  { u with
    st := Handler.receiveAck.code, cnt := 0, par := parityOfFirst b 8 ^^ p, sh := b, hclk := true, hdat := p
    ticks := u.ticks + BitVec.ofNat 32 36 }

/-- The state of a receive when it was acknowledged, and its byte delivered (R194). -/
def State.acked (u : State) (b : Byte) (p : Bool) : State :=
  { u.received b p with
    st := Handler.receiveEnd.code, datOe := true, hdat := true, ticks := u.ticks + BitVec.ofNat 32 40
    outq := (u.received b p).deliver.outq, inq := (u.received b p).deliver.inq }

theorem State.Clocked.received {u : State} (hu : u.Clocked) (b : Byte) (p : Bool) : (u.received b p).Clocked :=
  ⟨hu.ph, hu.gen, hu.clkOe⟩

theorem State.Clocked.acked {u : State} (hu : u.Clocked) (b : Byte) (p : Bool) : (u.acked b p).Clocked :=
  ⟨hu.ph, hu.gen, hu.clkOe⟩

theorem period_receiveParity {u : State} (hu : u.Clocked) (hdat : u.datOe = false) (b : Byte) (p : Bool) :
    period true p (u.receiving b 8) = .next (u.received b p) := by
  rw [(hu.receiving b 8).period (h := .receiveParity) rfl, (hu.receiving b 8).atHigh, handlerStep]
  simp [State.goto, accumulate, State.dat, State.advance, State.receiving, State.received, hdat, hu.ph, BitVec.add_assoc]

/-- A delivery writes the queues only, and what it writes does not depend on the lines, `PH` or `TICKS` (R194). -/
theorem State.deliver_of_eq {s t : State}
    (h : t = { s with datOe := t.datOe, ph := t.ph, ticks := t.ticks, hclk := t.hclk, hdat := t.hdat }) :
    t.deliver = { t with outq := s.deliver.outq, inq := s.deliver.inq } := by
  rw [h]
  unfold State.deliver
  dsimp only
  split
  · split <;> rfl
  · rfl

theorem period_receiveAck {u : State} (hu : u.Clocked) (hdat : u.datOe = false) (b : Byte) (p : Bool) :
    period true true (u.received b p) = .next (u.acked b p) := by
  rw [(hu.received b p).period (h := .receiveAck) rfl, (hu.received b p).atHigh, handlerStep, receiveAckStep,
    if_neg (by simp [State.dat, State.received, hdat]), State.deliver_of_eq (s := u.received b p) rfl]
  simp [State.goto, State.holdDat, State.advance, State.acked, State.received, hu.ph, BitVec.add_assoc]

/-- A host's frame from its first data bit on: eleven bits, then the Idle decision (R199). -/
theorem drive_frame {u : State} (hu : u.Clocked) (hdat : u.datOe = false) (b : Byte) (p : Bool) :
    drive ((dataBits b).map (fun d => (true, d)) ++ [(true, p), (true, true), (true, true)]) [] (u.receiving b 0) =
      .next { ((u.acked b p).atHigh true true).relDat.idleLogic.advance with wire := ackedBits b p } := by
  have hlast : (u.receiving b 8).dat = b.getLsbD 7 := by simp [State.dat, State.receiving, startOrData, hdat]
  have hparity : (u.received b p).dat = p := by simp [State.dat, State.received, hdat]
  have hack : (u.acked b p).dat = false := by simp [State.dat, State.acked]
  have hbits : (dataBits b).map (fun d => (true, d)) = (List.range' 0 8).map fun i => (true, b.getLsbD i) := by
    rw [dataBits, List.map_map, List.range_eq_range']
    rfl
  rw [hbits]
  refine (drive_receiving hu hdat b _ (k := 0) rfl).trans ?_
  rw [drive_of_period (period_receiveParity hu hdat b p), drive_of_period (period_receiveAck hu hdat b p),
    drive_of_period ((hu.acked b p).period (h := .receiveEnd) rfl true true), (hu.receiving b 8).presented,
    (hu.received b p).presented, (hu.acked b p).presented, hlast, hparity, hack]
  rfl

/-! ### What is delivered -/

theorem State.deliver_resend {s : State} (hpar : s.par = true) (hsh : s.sh = Config.resendCode) :
    s.deliver = { s with outq := s.outq.unq.2 } := by
  rw [State.deliver, parityValid, if_pos hpar, if_pos hsh]

theorem State.deliver_byte {s : State} (hpar : s.par = true) (hsh : s.sh ≠ Config.resendCode) :
    s.deliver = { s with inq := (s.inq.enq s.sh).2 } := by
  rw [State.deliver, parityValid, if_pos hpar, if_neg hsh]

theorem State.deliver_bad {s : State} (hpar : s.par ≠ true) :
    s.deliver = { s with inq := (s.inq.enq Config.rxErrByte).2 } := by
  rw [State.deliver, parityValid, if_neg hpar]

theorem State.deliver_outq (s : State) :
    s.deliver.outq = if s.par = true ∧ s.sh = Config.resendCode then s.outq.unq.2 else s.outq := by
  by_cases hpar : s.par = true
  · by_cases hsh : s.sh = Config.resendCode
    · rw [State.deliver_resend hpar hsh, if_pos ⟨hpar, hsh⟩]
    · rw [State.deliver_byte hpar hsh, if_neg fun h => hsh h.2]
  · rw [State.deliver_bad hpar, if_neg fun h => hpar h.1]

theorem State.deliver_outq_kept (s : State) : s.deliver.outq.slot = s.outq.slot ∧ s.deliver.outq.wr = s.outq.wr := by
  rw [State.deliver_outq]
  split
  · exact ⟨s.outq.unq_slot, s.outq.unq_wr⟩
  · exact ⟨rfl, rfl⟩

/-- A frame is valid when the count of its 1s, the parity bit with them, is odd (R112, R194). -/
theorem parity_valid_iff (b : Byte) (p : Bool) :
    (parityOfFirst b 8 ^^ p) = true ↔ (popcount b + p.toNat) % 2 = 1 := by
  rw [parityOfFirst_eight]
  rcases Nat.mod_two_eq_zero_or_one (popcount b) with h | h <;> cases p <;> simp [h, Nat.add_mod]

/-- Settles O44: the host's request, the eight data bits, the parity, the acknowledge with the delivery, and the Idle
decision of the period after it. -/
theorem receiveDeliversTheFrame : Obligations.ReceiveDeliversTheFrame := by
  intro s b p hst hgen hclk hdat valid q
  have hu : s.requested.Clocked := ⟨rfl, rfl, hclk⟩
  have hrun : drive (h2dDrive b p) [] s = _ := (drive_request hst hgen hclk b _).trans (drive_frame hu hdat b p)
  have hend : ((s.requested.acked b p).atHigh true true).relDat.Decides _ := State.decides_idleLogic rfl rfl
  generalize ((s.requested.acked b p).atHigh true true).relDat.idleLogic.advance = t at hrun hend
  have hticks : t.ticks = s.ticks + BitVec.ofNat 32 (56 - s.ph.toNat) :=
    calc t.ticks = s.requested.ticks + BitVec.ofNat 32 (4 * 11) := by
          rw [hend.frame.ticks, State.relDat_ticks, (hu.acked b p).atHigh]
          exact ticks_after_period s.requested.ticks 10
      _ = s.ticks + BitVec.ofNat 32 (3 - s.ph.toNat) + 1 + BitVec.ofNat 32 (4 * 13) := BitVec.add_assoc _ _ _
      _ = s.ticks + BitVec.ofNat 32 (56 - s.ph.toNat) := ticks_after_periods s.ticks s.ph 13
  have hpar : (s.requested.received b p).par = true ↔ valid := parity_valid_iff b p
  have hinq : t.inq = (s.requested.received b p).deliver.inq := hend.inq
  obtain ⟨hslot, hwr⟩ := (s.requested.received b p).deliver_outq_kept
  have hq : ((s.requested.acked b p).atHigh true true).relDat.outq = q :=
    (State.deliver_outq _).trans (if_congr (and_congr_left' hpar) rfl rfl)
  have hidle := hend.idle
  have hsend := hend.send
  rw [hq] at hidle hsend
  exact ⟨({ t with wire := ackedBits b p } : State).report (ackedBits b p),
    by rw [exec, execFrameH2D, hrun, andThen_next], rfl, State.report_self rfl,
    hend.frame.ph.trans ((s.requested.acked b p).atHigh_advance_ph true true), hend.lerr, hticks,
    fun hv hb => hinq.trans (congrArg State.inq (State.deliver_byte (hpar.mpr hv) hb)),
    fun hv hb => by rw [hinq, State.deliver_resend (hpar.mpr hv) hb]; rfl,
    fun hv => hinq.trans (congrArg State.inq (State.deliver_bad (mt hpar.mp hv))),
    hend.frame.outSlot.trans hslot, hend.frame.outWr.trans hwr, hend.clkOe, hend.par, hend.frame.fg, hidle, hsend⟩

end Sys2Proof.Machine
end

section
/-! PROOFS. An enqueue, an unqueue at once after a dequeue, and the queue micro-operations that only read (R151, R153,
R155 to R157). -/
namespace Sys2Proof.Machine

/-! ### The queue primitives -/

/-- Settles O35: an accepted enqueue writes the slot at the write cursor and no other. -/
theorem enqueueWritesOneSlot : Obligations.EnqueueWritesOneSlot := by
  refine fun q b hw => ⟨Queue.enq_full b, fun hroom => ?_⟩
  have henq := Queue.enq_ok b hroom
  exact ⟨congrArg Prod.fst henq, q.enq_rd b, congrArg (·.2.wr) henq, Queue.enq_read_same b hw hroom,
    fun _ => q.enq_read_other b⟩

/-- A dequeue from a queue that is not empty takes one byte. -/
theorem Queue.count_deq {q : Queue} (h : q.count ≠ 0) : q.count = q.deq.2.2.count + 1 := by
  rw [Queue.deq_ok h]
  exact Cursor.count_inc_rd q.rd q.wr h

/-- Settles O38: the dequeue leaves room, so the unqueue moves the read cursor back (R159). -/
theorem unqueueAfterDequeueRestores : Obligations.UnqueueAfterDequeueRestores := by
  intro q hne
  have hcount : q.count ≠ 0 := fun h => hne (q.count_eq_zero.mp h)
  have hroom : q.deq.2.2.count ≠ 9 := by
    have htaken := Queue.count_deq hcount
    have hle := q.count_le
    omega
  rw [Queue.unq_ok hroom, Queue.deq_ok hcount, add_sub_cancel_right]

theorem Queue.peek_empty {q : Queue} (h : q.count = 0) : q.peek = (.empty, 0) := if_pos h

theorem Queue.peek_ok {q : Queue} (h : q.count ≠ 0) : q.peek = (.ok, q.read q.rd) := if_neg h

/-! ### The micro-operations that read -/

theorem boolResult_isEmpty (q : Queue) : boolResult q.isEmpty = if q.rd = q.wr then 1 else 0 := by
  simp only [boolResult, Queue.isEmpty_eq, decide_eq_true_eq]

theorem boolResult_isFull (q : Queue) : boolResult q.isFull = if (q.wr - q.rd).val = 9 then 1 else 0 := by
  simp only [boolResult, Queue.isFull, Queue.count, Config.qcap, beq_iff_eq]

/-- A peek, whatever queue it is on, by whether the cursors meet (R157). -/
theorem execQpeek_of_ne {s : State} {qs : QSel} (h : (s.queue qs).rd ≠ (s.queue qs).wr) :
    execQpeek qs s = .next (s.respond .ok (BitVec.ofNat 32 ((s.queue qs).read (s.queue qs).rd).toNat)) := by
  rw [execQpeek, Queue.peek_ok fun h0 => h ((Queue.count_eq_zero _).mp h0), byteResult_eq_ofNat]

theorem execQpeek_of_eq {s : State} {qs : QSel} (h : (s.queue qs).rd = (s.queue qs).wr) :
    execQpeek qs s = .next (s.respond .empty 0) := by
  rw [execQpeek, Queue.peek_empty ((Queue.count_eq_zero _).mpr h)]
  rfl

/-- Settles O37: each micro-operation drives what the queue's primitive reads as a response, and no more. -/
theorem queueMicroReadsAnswer : Obligations.QueueMicroReadsAnswer := by
  intro s qs q hq
  obtain rfl : q = s.queue qs := hq
  refine ⟨?_, ?_, execQpeek_of_ne, execQpeek_of_eq⟩
  · rw [exec, execQempty, boolResult_isEmpty]
    rfl
  · rw [exec, execQfull, boolResult_isFull]
    rfl

end Sys2Proof.Machine
end

section
/-! PROOFS. The tick engine: the four phases, the nine handlers and the next-state table (R180 to R196), and what a step of
any agent lets into `INQ` (R113, R194). -/
namespace Sys2Proof.Machine

/-! ### The phases -/

/-- Settles O18: the three phases by `GEN`. -/
theorem phasesDriveTheClock : Obligations.PhasesDriveTheClock := by
  intro s
  refine ⟨?_, rfl, ?_⟩
  · cases hg : s.gen <;> simp [exec, execFall, State.advance, State.holdClk, hg]
  · cases hg : s.gen <;> simp [exec, execRise, State.advance, State.relClk, hg]

/-- A code that is not reserved names a handler (R106, R107). -/
theorem State.exists_handler {s : State} (h : s.st.toNat ≤ 8) : ∃ hd : Handler, s.st = hd.code := by
  obtain ⟨hd, hc⟩ := Option.isSome_iff_exists.mp ((Handler.ofCode_isSome s.st).trans (decide_eq_true h))
  exact ⟨hd, Handler.code_of_ofCode hc⟩

theorem execHigh_reserved {s : State} (h : 9 ≤ s.st.toNat) : execHigh s = .refused (.reservedState s.st) := by
  have hsome : (Handler.ofCode s.st).isSome = false :=
    (Handler.ofCode_isSome s.st).trans (decide_eq_false (by omega))
  have hnone : Handler.ofCode s.st = none := Option.isNone_iff_eq_none.mp (by simpa using hsome)
  simp [execHigh, hnone]

/-- Settles O19: a code in use names a handler, and the handler's next state then advances. -/
theorem highRunsTheHandlerOfST : Obligations.HighRunsTheHandlerOfST := by
  refine ⟨fun h s hst => ⟨handlerStep h s, exec_handler h s, execHigh_of_code hst⟩, fun s hle => ?_,
    fun s => execHigh_reserved⟩
  obtain ⟨hd, hst⟩ := State.exists_handler hle
  exact ⟨_, execHigh_of_code hst⟩

/-- Settles O20, by the frame of a tick. -/
theorem everyTickAdvancesPhaseAndCounter : Obligations.EveryTickAdvancesPhaseAndCounter := by
  intro s t c d h
  have frame := tick_ticksTo ((tick_eq_exec { s with hclk := c, hdat := d }).trans h)
  constructor
  · rw [frame.ph]
    exact BitVec.toNat_add s.ph 1
  · rw [frame.ticks]
    exact BitVec.toNat_add s.ticks 1

/-! ### The tests of the handlers -/

theorem State.clk_eq_false_iff {s : State} : s.clk = false ↔ s.clkOe = true ∨ s.hclk = false := by
  cases h : s.clkOe <;> simp [State.clk, h]

theorem State.clk_eq_true_iff {s : State} : s.clk = true ↔ s.clkOe = false ∧ s.hclk = true := by
  simp [State.clk]

theorem State.dat_eq_false_iff {s : State} : s.dat = false ↔ s.datOe = true ∨ s.hdat = false := by
  cases h : s.datOe <;> simp [State.dat, h]

theorem State.dat_eq_true_iff {s : State} : s.dat = true ↔ s.datOe = false ∧ s.hdat = true := by
  simp [State.dat]

theorem State.maySend_eq_true_iff {s : State} :
    s.maySend = true ↔ s.datOe = false ∧ s.hdat = true ∧ s.outq.rd ≠ s.outq.wr ∧ s.lerr = false := by
  simp [State.maySend, State.dat, Queue.isEmpty_eq, and_assoc]

/-! ### The handlers, one by one -/

theorem exec_handler_eq (h : Handler) {s t : State} (ht : handlerStep h s = t) : exec h.instr s = .next t :=
  ht ▸ exec_handler h s

/-- Settles O21: the three rows of the decision, told apart by the host's clock and the test for a send. -/
theorem idleDecidesAsTheRuleSays : Obligations.IdleDecidesAsTheRuleSays := by
  intro s
  rcases s.idleLogic_cases with ⟨hheld, h⟩ | ⟨hfree, hsend, h⟩ | ⟨hfree, hsend, h⟩
  · exact ⟨fun _ => exec_handler_eq .idle h, fun hc => by simp [hheld] at hc, fun hc => by simp [hheld] at hc⟩
  · obtain ⟨hrel, hd, hne, hlerr⟩ := State.maySend_eq_true_iff.mp hsend
    refine ⟨fun hc => by simp [hfree] at hc, fun _ _ _ _ _ => exec_handler_eq .idle (h.trans ?_),
      fun _ hno => by simp [hrel, hd, hne, hlerr] at hno⟩
    have hdeq : s.outq.deq = _ := Queue.deq_ok fun h0 => hne (s.outq.count_eq_zero.mp h0)
    simp only [State.startSend, State.enterIdle, hdeq]
    rfl
  · refine ⟨fun hc => by simp [hfree] at hc, fun _ hrel hd hne hlerr => ?_, fun _ _ => exec_handler_eq .idle h⟩
    simp [State.maySend_eq_true_iff.mpr ⟨hrel, hd, hne, hlerr⟩] at hsend

/-- Settles O22: the two tests of the handler. -/
theorem inhibitedWaitsForTheClock : Obligations.InhibitedWaitsForTheClock := by
  intro s
  refine ⟨fun hc => ?_, fun hoe hc hrel hd => ?_, fun hoe hc hlow => ?_⟩ <;>
    refine exec_handler_eq .inhibited ?_ <;> rw [handlerStep, inhibitedStep]
  · rw [if_pos (State.clk_eq_false_iff.mpr hc)]
  · rw [if_neg (by simp [State.clk, hoe, hc]), if_pos (State.dat_eq_true_iff.mpr ⟨hrel, hd⟩)]
    rfl
  · rw [if_neg (by simp [State.clk, hoe, hc]), if_neg (by simp [State.dat_eq_false_iff, hlow])]
    rfl

/-- The count after a decrement, by value (R189, R192). -/
theorem toNat_countDown_add_one {n c : BitVec 4} (hn : c ≠ 0 → n = c - 1) (hc : c ≠ 0) : n.toNat + 1 = c.toNat := by
  rw [hn hc]
  bv_omega

/-- Settles O23, by the two cases of the handler. -/
theorem sendBitShiftsOrYields : Obligations.SendBitShiftsOrYields := by
  intro s
  rcases sendBitStep_cases s with ⟨hclk, h⟩ | ⟨hclk, n, hn, h⟩
  · refine ⟨fun _ => exec_handler_eq .sendBit h, fun hoe hc => ?_⟩
    simp [State.clk, hoe, hc] at hclk
  · refine ⟨fun hc => ?_, fun _ _ => ⟨n, toNat_countDown_add_one hn, exec_handler_eq .sendBit h⟩⟩
    simp [State.clk_eq_false_iff.mpr hc] at hclk

theorem sendParityStep_of_clk {s : State} (h : s.clk = true) : sendParityStep s = { s with datOe := s.par, st := 4 } := by
  rw [sendParityStep, if_neg (by simp [h])]
  cases hp : s.par <;> simp [State.placeBit, parityBit, State.goto, State.relDat, State.holdDat, Handler.code, hp]

theorem sendParityStep_of_not_clk {s : State} (h : s.clk = false) : sendParityStep s = s.takeover := if_pos h

/-- Settles O24: SendParity by the clock, SendStopBit without a test. -/
theorem sendParityAndStopBit : Obligations.SendParityAndStopBit := fun _ =>
  ⟨fun hc => exec_handler_eq .sendParity (sendParityStep_of_not_clk (State.clk_eq_false_iff.mpr hc)),
    fun hoe hc => exec_handler_eq .sendParity (sendParityStep_of_clk (State.clk_eq_true_iff.mpr ⟨hoe, hc⟩)), rfl⟩

/-- The value of a byte with a bit shifted in at bit 7 (R192). -/
theorem toNat_shiftIn (b : Bool) (v : Byte) :
    (BitVec.ofBool b ++ v.extractLsb' 1 7).toNat = (if b then 128 else 0) + v.toNat / 2 := by
  have hv := v.isLt
  have hlow : (v.extractLsb' 1 7).toNat = v.toNat / 2 := by
    rw [BitVec.extractLsb'_toNat, Nat.shiftRight_eq_div_pow]
    omega
  rw [BitVec.toNat_append, ← Nat.shiftLeft_add_eq_or_of_lt (v.extractLsb' 1 7).isLt, hlow]
  cases b <;> rfl

/-- Settles O25: the bit shifted in, by value, and the handler's count. -/
theorem receiveBitAndParity : Obligations.ReceiveBitAndParity := by
  rintro s b rfl
  obtain ⟨n, hn, h⟩ := receiveBitStep_cases s
  exact ⟨⟨n, _, toNat_countDown_add_one hn, toNat_shiftIn s.dat s.sh, exec_handler_eq .receiveBit h⟩, rfl⟩

/-- ReceiveAck with the data line high: the acknowledge and the delivery (R194). -/
theorem receiveAckStep_of_dat {s : State} (h : s.dat = true) :
    receiveAckStep s = { s with datOe := true, st := 8, outq := s.deliver.outq, inq := s.deliver.inq } := by
  rw [receiveAckStep, if_neg (by simp [h]), State.deliver_of_eq (s := s) (t := s.holdDat) rfl]
  rfl

theorem receiveAckStep_of_not_dat {s : State} (h : s.dat = false) : receiveAckStep s = s := if_pos h

/-- Settles O26: the wait, then the three deliveries, each on a queue with room and on a full one. -/
theorem receiveAckDelivers : Obligations.ReceiveAckDelivers := by
  intro s
  refine ⟨fun h => exec_handler_eq .receiveAck (receiveAckStep_of_not_dat (State.dat_eq_false_iff.mpr h)),
    fun hrel hd => ?_⟩
  have hack := receiveAckStep_of_dat (State.dat_eq_true_iff.mpr ⟨hrel, hd⟩)
  refine ⟨fun hpar hsh hroom => ?_, fun hpar hsh hfull => ?_, fun hpar hsh hroom => ?_, fun hpar hsh hfull => ?_,
    fun hpar hroom => ?_, fun hpar hfull => ?_⟩ <;> refine exec_handler_eq .receiveAck (hack.trans ?_)
  · rw [State.deliver_resend hpar hsh, Queue.unq_ok hroom]
  · rw [State.deliver_resend hpar hsh, Queue.unq_full hfull]
  · rw [State.deliver_byte hpar hsh, Queue.enq_ok _ hroom]
  · rw [State.deliver_byte hpar hsh, Queue.enq_full _ hfull]
  · rw [State.deliver_bad (by simp [hpar]), Queue.enq_ok _ hroom]
  · rw [State.deliver_bad (by simp [hpar]), Queue.enq_full _ hfull]

/-- Settles O27: both are the Idle decision, on the state with the data line released. -/
theorem receiveEndDecidesAtOnce : Obligations.ReceiveEndDecidesAtOnce := fun s =>
  ⟨exec_handler .receiveEnd s, _, exec_handler .receiveEnd s⟩

/-! ### The next-state table -/

theorem State.idleLogic_st (s : State) : s.idleLogic.st = if s.hclk = false then 1
    else if s.datOe = false ∧ s.hdat = true ∧ s.outq.rd ≠ s.outq.wr ∧ s.lerr = false then 2 else 0 := by
  rw [← if_congr (State.maySend_eq_true_iff (s := s)) rfl rfl]
  rcases s.idleLogic_cases with ⟨hc, h⟩ | ⟨hc, hsend, h⟩ | ⟨hc, hsend, h⟩ <;> rw [h]
  · rw [if_pos hc]
    rfl
  · rw [if_neg (by simp [hc]), if_pos hsend]
    rfl
  · rw [if_neg (by simp [hc]), if_neg (by simp [hsend])]
    rfl

theorem inhibitedStep_st {s : State} (hst : s.st = 1) :
    (inhibitedStep s).st = if s.clk = false then 1 else if s.datOe = false ∧ s.hdat = true then 0 else 5 := by
  rw [← if_congr (State.dat_eq_true_iff (s := s)) rfl rfl, inhibitedStep]
  split
  · exact hst
  · split <;> rfl

theorem sendBitStep_st {s : State} (hst : s.st = 2) :
    ((sendBitStep s).st = if s.clk = false then 1 else if (sendBitStep s).cnt = 0 then 3 else 2) ∧
    (s.clk = false → (sendBitStep s).lerr = true) := by
  rcases sendBitStep_cases s with ⟨hc, h⟩ | ⟨hc, n, -, h⟩ <;> rw [h]
  · exact ⟨(if_pos hc).symm, fun _ => rfl⟩
  · simp [hc, hst, Handler.code]

theorem sendParityStep_st (s : State) :
    ((sendParityStep s).st = if s.clk = false then 1 else 4) ∧ (s.clk = false → (sendParityStep s).lerr = true) := by
  cases hc : s.clk
  · rw [sendParityStep_of_not_clk hc]
    exact ⟨rfl, fun _ => rfl⟩
  · rw [sendParityStep_of_clk hc]
    exact ⟨rfl, nofun⟩

theorem receiveBitStep_st {s : State} (hst : s.st = 5) :
    (receiveBitStep s).st = if (receiveBitStep s).cnt = 0 then 6 else 5 := by
  obtain ⟨n, -, h⟩ := receiveBitStep_cases s
  rw [h, ← hst]
  rfl

theorem receiveAckStep_st {s : State} (hst : s.st = 7) :
    (receiveAckStep s).st = if s.datOe = false ∧ s.hdat = true then 8 else 7 := by
  rw [← if_congr (State.dat_eq_true_iff (s := s)) rfl rfl]
  cases hd : s.dat
  · rw [receiveAckStep_of_not_dat hd]
    exact hst
  · rw [receiveAckStep_of_dat hd]
    rfl

/-- Settles O28: the edges keep `ST`; at HIGH each row is its handler's. -/
theorem engineFollowsTheNextStateTable : Obligations.EngineFollowsTheNextStateTable := by
  rintro s t c d _ rfl h
  refine ⟨fun hp => ?_, fun hp => ?_⟩
  · rcases tick_cases ((tick_eq_exec { s with hclk := c, hdat := d }).trans h) with
      ⟨-, rfl⟩ | ⟨-, rfl⟩ | ⟨-, rfl⟩ | ⟨h3, -⟩
    case inr.inl => rfl
    case inr.inr.inr => exact absurd h3 hp
    all_goals cases s.gen <;> rfl
  · obtain ⟨hd, u, rfl, hcode, rfl⟩ := exec_high_cases hp h
    have row {hd' : Handler} (hst : s.st = hd'.code) : hd = hd' := Handler.code_inj (hcode.symm.trans hst)
    refine ⟨fun hst => ?_, fun hst => ?_, fun hst => ?_, fun hst => ?_, fun hst => ?_, fun hst => ?_, fun hst => ?_,
      fun hst => ?_, fun hst => ?_⟩
    · obtain rfl : hd = .idle := row hst
      exact State.idleLogic_st _
    · obtain rfl : hd = .inhibited := row hst
      exact inhibitedStep_st hst
    · obtain rfl : hd = .sendBit := row hst
      exact sendBitStep_st hst
    · obtain rfl : hd = .sendParity := row hst
      exact sendParityStep_st _
    · obtain rfl : hd = .sendStopBit := row hst
      rfl
    · obtain rfl : hd = .receiveBit := row hst
      exact receiveBitStep_st hst
    · obtain rfl : hd = .receiveParity := row hst
      rfl
    · obtain rfl : hd = .receiveAck := row hst
      exact receiveAckStep_st hst
    · obtain rfl : hd = .receiveEnd := row hst
      exact (State.idleLogic_st _).trans (by simp)

/-! ### What enters `INQ` -/

/-- What an external word can be: an instruction of the foreground, the engine's Resend, or a frame. -/
theorem Instr.external_cases {i : Instr} {w : Nat} (hi : Item.external (.word i.space w)) :
    Instr.OfForeground i ∨ i = .cmdResend ∨ (∃ b p, i = .frameD2H b p) ∨ ∃ b p, i = .frameH2D b p := by
  rcases hi with hi | hi | hi | hi | hi | hi
  · exact .inl (.inl hi)
  · exact .inr (.inr (.inl (eq_frameD2H_of_space hi)))
  · exact .inr (.inr (.inr (eq_frameH2D_of_space hi)))
  · by_cases hr : i = .cmdResend
    · exact .inr (.inl hr)
    · exact .inl (.inr (.inr (.inr ⟨hi, hr⟩)))
  · exact .inl (.inr (.inr (.inl hi)))
  · exact .inl (.inr (.inl hi))

/-- `INQ`'s store is canonical, and no slot of it reads as a 0xFE that is no sentinel (R194). -/
def State.InboundClean (s : State) : Prop := s.inq.slot.wf = true ∧ s.noResendInbound

namespace State.InboundClean
variable {s t : State}

theorem of_slot (hs : s.InboundClean) (h : t.inq.slot = s.inq.slot) : t.InboundClean := by
  obtain ⟨hw, hclean⟩ := hs
  exact ⟨h ▸ hw, fun k hk => hclean k ((Queue.read_of_slot h k).symm.trans hk)⟩

/-- An enqueue of a byte that is no 0xFE, or is the sentinel. -/
theorem enq {b : Byte} (hs : s.InboundClean) (hb : b = Config.resendCode → Config.rxErrByte = Config.resendCode)
    (h : t.inq = (s.inq.enq b).2) : t.InboundClean := by
  obtain ⟨hw, hclean⟩ := hs
  refine ⟨h ▸ Queue.enq_wf b hw, fun k hk => ?_⟩
  rw [h] at hk
  rcases Queue.enq_read_cases b hw k with hread | hread
  · exact hclean k (hread.symm.trans hk)
  · exact hb (hread.symm.trans hk)

/-- A valid 0xFE is not enqueued, and what an invalid frame brings is the sentinel (R194). -/
theorem deliver (hs : s.InboundClean) : s.deliver.InboundClean := by
  by_cases hpar : s.par = true
  · by_cases hsh : s.sh = Config.resendCode
    · rw [State.deliver_resend hpar hsh]
      exact hs
    · rw [State.deliver_byte hpar hsh]
      exact hs.enq (fun h => absurd h hsh) rfl
  · rw [State.deliver_bad hpar]
    exact hs.enq id rfl

theorem handlerStep {hd : Handler} (hs : s.InboundClean) : (handlerStep hd s).InboundClean := by
  by_cases hack : hd = .receiveAck
  · subst hack
    cases hdat : s.dat
    · exact hs.of_slot (congrArg (·.inq.slot) (receiveAckStep_of_not_dat hdat))
    · exact hs.deliver.of_slot (congrArg (·.inq.slot) (receiveAckStep_of_dat hdat))
  · exact hs.of_slot (handlerStep_sameSlots hack s).2

theorem tick (hs : s.InboundClean) (h : tick s = .next t) : t.InboundClean := by
  rcases tick_cases h with ⟨-, rfl⟩ | ⟨-, rfl⟩ | ⟨-, rfl⟩ | ⟨-, hd, -, rfl⟩
  case inr.inl => exact hs
  case inr.inr.inr => exact hs.handlerStep (hd := hd)
  all_goals cases s.gen <;> exact hs

theorem tickInvariant : TickInvariant State.InboundClean where
  host _ _ h := h
  wire _ h := h
  respond _ _ h := h
  tick h hs := hs.tick h

/-- A frame is a run of ticks, and every other word of an external space leaves `INQ`'s slots alone. -/
theorem exec {i : Instr} {w : Nat} (hs : s.InboundClean) (hi : Item.external (.word i.space w))
    (h : exec i s = .next t) : t.InboundClean := by
  rcases Instr.external_cases hi with hi | rfl | ⟨b, p, rfl⟩ | ⟨b, p, rfl⟩
  · exact hs.of_slot (exec_sameEngineSide hi h).inSlot
  · exact Host.Outcome.next.inj h ▸ hs
  · exact tickInvariant.frameD2H h hs
  · exact tickInvariant.frameH2D h hs

theorem runItem {item : Item} (hs : s.InboundClean) (hi : Item.external item) (h : runItem item s = .next t) :
    t.InboundClean := by
  cases item
  case event e =>
    cases e
    case tick c d => exact tick (s := s.withHost c d) hs ((tickStep_eq_tick c d s).symm.trans h)
    case port req c d => exact hs.of_slot (portStep_sameEngineSide h).inSlot
    case reset =>
      obtain rfl := Host.Outcome.next.inj h
      exact ⟨rfl, fun k hk => absurd hk (by decide : unlisted ≠ Config.resendCode)⟩
    case foreground q => exact hs.of_slot (foregroundStep_sameEngineSide h).inSlot
  case word sp w =>
    dsimp only [Machine.runItem] at h
    split at h
    · next i hd =>
      obtain rfl := decode_external_space hi hd
      exact hs.exec hi h
    · cases h

end State.InboundClean

theorem takeItem_inq (s : State) : (takeItem s).inq = s.inq := by
  unfold takeItem
  split <;> rfl

/-- Settles O49: ReceiveAck's delivery is all that brings a byte in, and it brings no 0xFE but the sentinel. -/
theorem noStepLetsAResendInbound : Obligations.NoStepLetsAResendInbound := by
  rintro s t ⟨-, hw⟩ hclean hx h
  have hs : s.InboundClean := ⟨hw, hclean⟩
  exact ((hs.of_slot (congrArg Queue.slot (takeItem_inq s))).runItem (nextItem_external hx) h).2

end Sys2Proof.Machine
end

section
/-! PROOFS. The two lines, each a wired-AND of the block's drive and the host's, and the line micro-operations (R230 to
R237). -/
namespace Sys2Proof.Machine

/-! ### The levels (R230) -/

theorem State.clk_of_held {s : State} (h : s.clkOe = true) : s.clk = false :=
  State.clk_eq_false_iff.mpr (.inl h)

theorem State.clk_of_released {s : State} (h : s.clkOe = false) : s.clk = s.hclk := by
  simp [State.clk, h]

theorem State.dat_of_held {s : State} (h : s.datOe = true) : s.dat = false :=
  State.dat_eq_false_iff.mpr (.inl h)

theorem State.dat_of_released {s : State} (h : s.datOe = false) : s.dat = s.hdat := by
  simp [State.dat, h]

theorem boolResult_clk (s : State) : boolResult s.clk = if s.clkOe = false ∧ s.hclk = true then 1 else 0 :=
  if_congr State.clk_eq_true_iff rfl rfl

theorem boolResult_dat (s : State) : boolResult s.dat = if s.datOe = false ∧ s.hdat = true then 1 else 0 :=
  if_congr State.dat_eq_true_iff rfl rfl

/-! ### The micro-operations -/

/-- Settles O33: a hold or a release sets its drive, and a read drives the level of its line as a response. -/
theorem lineMicroOperationsAct : Obligations.LineMicroOperationsAct := by
  refine fun s => ⟨rfl, rfl, rfl, rfl, ?_, ?_⟩
  · rw [exec, execClkRd, boolResult_clk]
    rfl
  · rw [exec, execDatRd, boolResult_dat]
    rfl

/-- Settles O34: a level is of its own line's drive and the host's alone, and a read changes no field but the
response. -/
theorem lineLevelsAreWiredAnd : Obligations.LineLevelsAreWiredAnd := by
  intro s x
  have clkIndependent : ({ s with datOe := x } : State).clk = s.clk := rfl
  have datIndependent : ({ s with clkOe := x } : State).dat = s.dat := rfl
  exact ⟨State.clk_of_held, State.clk_of_released, State.dat_of_held, State.dat_of_released, clkIndependent,
    datIndependent, ⟨s.respond .ok (boolResult s.clk), rfl, rfl⟩, ⟨s.respond .ok (boolResult s.dat), rfl, rfl⟩,
    ⟨s.respond .ok (linesResult s.clk s.dat), rfl, rfl⟩⟩

end Sys2Proof.Machine
end

section
/-! PROOFS. The port operations, one by one: what each answers and what it leaves alone (R250 to R264). -/
namespace Sys2Proof.Machine

/-! ### The operations on `OUTQ` and `INQ` -/

/-- Settles O8, by the two cases of an enqueue. -/
theorem outEnqAppendsOrReportsFull : Obligations.OutEnqAppendsOrReportsFull := by
  refine fun s imm => ⟨fun hroom => ?_, fun hfull => ?_⟩
  · rw [exec, execOutEnq, Queue.enq_ok imm hroom]
    rfl
  · rw [exec, execOutEnq, Queue.enq_full imm hfull]
    rfl

/-- Settles O9: the operation is the queue's clear. -/
theorem outClrMovesTheWriteCursorBack : Obligations.OutClrMovesTheWriteCursorBack := fun _ => rfl

/-- Settles O10: a test at the port answers what the micro-operation on its queue answers. -/
theorem queueTestsAnswer : Obligations.QueueTestsAnswer := by
  intro s
  obtain ⟨outEmpty, outFull, -⟩ := queueMicroReadsAnswer s .outq s.outq rfl
  obtain ⟨inEmpty, inFull, -⟩ := queueMicroReadsAnswer s .inq s.inq rfl
  exact ⟨outEmpty, outFull, inEmpty, inFull⟩

/-- Settles O11: a peek at the port is the micro-operation on its queue. -/
theorem peeksAnswerTheFront : Obligations.PeeksAnswerTheFront := fun _ =>
  ⟨execQpeek_of_ne (qs := .outq), execQpeek_of_eq (qs := .outq), execQpeek_of_ne (qs := .inq),
    execQpeek_of_eq (qs := .inq)⟩

/-- Settles O12: `IN.DEQ` is the dequeue micro-operation on `INQ`. -/
theorem inDeqTakesTheFront : Obligations.InDeqTakesTheFront := fun _ =>
  ⟨execQdeq_of_ne (q := .inq), execQdeq_of_eq (q := .inq)⟩

/-! ### The flag, the counter and the lines -/

/-- Settles O13: the read is a response alone, the clear writes the flag besides. -/
theorem linkErrorFlagIsReadAndCleared : Obligations.LinkErrorFlagIsReadAndCleared := fun _ => ⟨rfl, rfl⟩

/-- The clock level is bit 0 and the data level bit 1 (R105). -/
theorem linesResult_toNat : ∀ clk dat : Bool,
    (linesResult clk dat).toNat = (if clk = true then 1 else 0) + (if dat = true then 2 else 0) := by decide

/-- Settles O14: the counter is the result as it stands, and the result's two bits are the levels of the lines. -/
theorem ticksAndLinesAreRead : Obligations.TicksAndLinesAreRead := by
  refine fun s => ⟨rfl, linesResult s.clk s.dat, rfl, ?_⟩
  rw [linesResult_toNat]
  exact congrArg₂ (· + ·) (if_congr State.clk_eq_true_iff rfl rfl) (if_congr State.dat_eq_true_iff rfl rfl)

/-! ### The other request words -/

/-- Settles O15: the word decodes to ILLEGAL, whatever its immediate, and ILLEGAL only responds. -/
theorem illegalRequestsChangeNothing : Obligations.IllegalRequestsChangeNothing := by
  refine fun s op imm hop => ⟨?_, rfl⟩
  rw [ofNat_eq_portWord, decodePort_portWord_illegal hop]
  rfl

end Sys2Proof.Machine
end

section
/-! PROOFS. The foreground's contracts: the replies to the link bytes, the bytes it sends, and the steps of its loop, the
parameter wait, the debounce and the recovery (R281 to R305). -/
namespace Sys2Proof.Machine

/-! ### The foreground's own operations -/

/-- The three steps of the wait are the ones R292 names. -/
theorem not_isWaitStep (o : FgOp) :
    (!isWaitStep o) = decide (o ≠ .waitStart ∧ o ≠ .waitTake ∧ o ≠ .waitDeadline) := by
  cases o <;> rfl

theorem State.endWait_eq (s : State) : s.endWait = { s with fg := { s.fg with
    waiting := false
    todo := s.fg.todo.filter fun o => o ≠ .waitStart ∧ o ≠ .waitTake ∧ o ≠ .waitDeadline } } := by
  simp only [State.endWait, not_isWaitStep]

/-- A reply ends a wait, and comes before what is left to do (R282, R292). -/
theorem State.reply_eq (s : State) (bytes : List Byte) (after : List FgOp) :
    s.reply bytes after = { s with fg := { s.fg with
      waiting := false
      todo := .request 0x0200 :: (bytes.map .respond ++ after ++
        s.fg.todo.filter fun o => o ≠ .waitStart ∧ o ≠ .waitTake ∧ o ≠ .waitDeadline) } } := by
  rw [State.reply, State.endWait_eq]
  rfl

theorem State.takeData_of_waiting {s : State} (h : s.fg.waiting = true) : s.takeData = s.endWait := if_pos h

theorem State.takeData_of_not_waiting {s : State} (h : s.fg.waiting = false) : s.takeData = s :=
  if_neg (Bool.eq_false_iff.mp h)

/-- The bytes of a key event are the two of R299 and R300. -/
theorem isKeyStep_eq (o : FgOp) : isKeyStep o = decide (o = .respond 0x29 ∨ o = .respond 0xF0) := by
  cases o
  case respond b =>
    rw [Bool.eq_iff_iff]
    simp [isKeyStep]
  all_goals rfl

theorem State.enqueueKey_of_room {s : State} (h : s.outq.count ≠ 9) (b : Byte) (next : List FgOp) :
    s.enqueueKey b next = { s with
      outq := { s.outq with slot := Memory.write s.outq.slot s.outq.wr.val b, wr := s.outq.wr + 1 }
      resp := { status := .ok, result := 0 }
      fg := { s.fg with keys := s.fg.keys ++ [b], todo := next ++ s.fg.todo } } := by
  simp only [State.enqueueKey, State.enqueue, Queue.enq_ok b h, if_true]

theorem State.enqueueKey_of_full {s : State} (h : s.outq.count = 9) (b : Byte) (next : List FgOp) :
    s.enqueueKey b next = { s with
      resp := { status := .full, result := 0 }
      fg := { s.fg with todo := .request 0x0200 :: .respond 0xF0 :: .request 0x2100 ::
        s.fg.todo.dropWhile fun o => o = .respond 0x29 ∨ o = .respond 0xF0 } } := by
  simp only [State.enqueueKey, State.enqueue, Queue.enq_full b h, reduceCtorEq, if_false, ← isKeyStep_eq]
  rfl

/-! ### The link bytes and the response bytes -/

/-- Settles O50: each command is a reply of its bytes, with nothing after it. -/
theorem commandsQueueTheirReplies : Obligations.CommandsQueueTheirReplies := by
  intro s after
  have replies (bytes : List Byte) : (.next (s.reply bytes []) : Outcome) = .next (after bytes) := by
    rw [State.reply_eq, List.append_nil]
  exact ⟨replies _, replies _, replies _, replies _, replies _, replies _, replies _, replies _, replies _, replies _,
    replies _, replies _, replies _, replies _, replies _, replies _⟩

/-- Settles O51: a reply with the wait after it, and the unqueue by its two cases. -/
theorem parameterCommandsAndResend : Obligations.ParameterCommandsAndResend := by
  intro s after
  have replies : (.next (s.reply [0xFA] [.waitStart]) : Outcome) = .next after := congrArg _ (s.reply_eq _ _)
  refine ⟨replies, replies, fun hroom => ?_, fun hfull => ?_⟩
  · rw [exec, execCmdResend, Queue.unq_ok hroom]
  · rw [exec, execCmdResend, Queue.unq_full hfull]

/-- Settles O52: the data bytes are one operation, whose two cases are a wait and none. -/
theorem dataBytesAndTheSentinel : Obligations.DataBytesAndTheSentinel := by
  intro s a b c d e after
  have data : (.next s.takeData : Outcome) = .next after := by
    congr 1
    by_cases h : s.fg.waiting = false
    · exact (State.takeData_of_not_waiting h).trans (if_pos h).symm
    · rw [State.takeData_of_waiting (Bool.not_eq_false _ ▸ h), State.endWait_eq]
      exact (if_neg h).symm
  exact ⟨data, data, data, data, data, data, rfl⟩

/-- Settles O53: each response is the enqueue of its byte. -/
theorem responsesAreEnqueued : Obligations.ResponsesAreEnqueued := fun _ => ⟨rfl, rfl, rfl, rfl, rfl, rfl⟩

/-- Settles O54, by whether `OUTQ` has room for the byte. -/
theorem keyBytesAreEnqueuedAndRecorded : Obligations.KeyBytesAreEnqueuedAndRecorded := by
  refine fun s => ⟨fun hroom => ⟨?_, ?_⟩, fun hfull => ⟨?_, ?_⟩⟩
  · exact congrArg _ (State.enqueueKey_of_room hroom 0x29 [])
  · exact congrArg _ (State.enqueueKey_of_room hroom 0xF0 [.respond 0x29])
  · exact congrArg _ (State.enqueueKey_of_full hfull 0x29 [])
  · exact congrArg _ (State.enqueueKey_of_full hfull 0xF0 [.respond 0x29])

/-! ### The classes of a byte -/

theorem linkClass_eq_data {b : Byte} : linkClass b = .data ↔ b ≠ Config.rxErrByte ∧ ¬Config.cmdMin ≤ b := by
  unfold linkClass
  split
  · simp [*]
  · split <;> simp [*]

theorem classify_of_sentinel {b : Byte} (h : linkClass b = .sentinel) : classify b = .sentinel := by
  rw [classify, h]

theorem classify_of_ne {b : Byte} (h : b ≠ Config.rxErrByte) : classify b = decodeLink b := by
  rw [classify_eq, if_neg h]

/-- Is this one of the data bytes (R290)? -/
def Instr.isData : Instr → Bool
  | .data007F _ | .data80BF _ | .dataC0DF _ | .dataE0E7 _ | .dataE8EB _ | .dataECEC => true
  | _ => false

theorem isData_decodeLink : ∀ b : Byte, Instr.isData (decodeLink b) = decide (¬Config.cmdMin ≤ b) := by decide

theorem exec_of_isData {i : Instr} (h : Instr.isData i = true) (s : State) : exec i s = .next s.takeData := by
  cases i <;> cases h <;> rfl

/-- A command is answered with a reply; only the reply of 0xFA may have the parameter wait after it (R283 to R289). -/
theorem exec_command {i : Instr} (hl : i.space = .link) (hd : Instr.isData i = false) (hr : i ≠ .cmdResend) (s : State) :
    ∃ bytes after, exec i s = .next (s.reply bytes after) ∧ (bytes = [0xFA] ∧ after = [.waitStart] ∨ after = []) := by
  cases i <;> cases hl <;> cases hd
  case cmdResend => exact absurd rfl hr
  case cmdSetTypematic | cmdSetLeds => exact ⟨_, _, rfl, .inl ⟨rfl, rfl⟩⟩
  all_goals exact ⟨_, _, rfl, .inr rfl⟩

theorem handleByte_sentinel {b : Byte} (h : linkClass b = .sentinel) (s : State) :
    handleByte b s = .next (s.push [.respond 0xFE]) := by
  rw [handleByte_of_class (.inl (linkClass_eq_sentinel.mp h)), classify_of_sentinel h]
  rfl

theorem handleByte_data {b : Byte} (h : linkClass b = .data) (s : State) : handleByte b s = .next s.takeData := by
  obtain ⟨hne, hlt⟩ := linkClass_eq_data.mp h
  have hfe : b ≠ Config.resendCode := fun hb => hlt (hb ▸ by decide)
  rw [handleByte_of_class (.inr hfe), classify_of_ne hne]
  exact exec_of_isData ((isData_decodeLink b).trans (decide_eq_true hlt)) s

theorem handleByte_command {b : Byte} (h : linkClass b = .command) (hfe : b ≠ Config.resendCode) (s : State) :
    ∃ bytes after, handleByte b s = .next (s.reply bytes after) ∧
      (bytes = [0xFA] ∧ after = [.waitStart] ∨ after = []) := by
  obtain ⟨hne, hge⟩ := linkClass_eq_command.mp h
  rw [handleByte_of_class (.inr hfe), classify_of_ne hne]
  exact exec_command (decodeLink_space b) ((isData_decodeLink b).trans (decide_eq_false (not_not.mpr hge)))
    (mt (eq_resendCode_of_decodeLink b) hfe) s

theorem exec_classify_completes (b : Byte) (s : State) : ∃ t, exec (classify b) s = .next t := by
  rcases classify_space b with hsp | hsp
  · rw [eq_sentinel_of_space hsp]
    exact ⟨_, rfl⟩
  · rcases exec_link_cases hsp s with ⟨-, h⟩ | ⟨_, _, h⟩ | h <;> exact ⟨_, h⟩

/-! ### A byte taken in a pass -/

/-- The state with these steps still to take. -/
def State.withTodo (s : State) (ops : List FgOp) : State := { s with fg := { s.fg with todo := ops } }

@[simp] theorem State.withTodo_keys (s : State) (ops : List FgOp) : (s.withTodo ops).fg.keys = s.fg.keys := rfl

theorem foregroundStep_of_todo {s : State} {op : FgOp} {rest : List FgOp} (h : s.fg.todo = op :: rest) (q : Bool) :
    foregroundStep q s = foregroundOp q op (s.withTodo rest) := foregroundStep_cons h q

/-- The state when `IN.DEQ` has answered with the byte at the front of `INQ` (R259). -/
def State.taken (s : State) : State := { s with
  req := 0x1600
  inq := { s.inq with rd := s.inq.rd + 1 }
  resp := { status := .ok, result := BitVec.ofNat 32 (s.inq.read s.inq.rd).toNat } }

theorem portStep_inDeq_of_ne {s : State} (h : s.inq.rd ≠ s.inq.wr) : portStep (requestOf .inDeq) s = .next s.taken :=
  (portStep_inDeq s).trans ((inDeqTakesTheFront _).1 h)

theorem portStep_inDeq_of_eq {s : State} (h : s.inq.rd = s.inq.wr) :
    portStep (requestOf .inDeq) s = .next { s with req := 0x1600, resp := { status := .empty, result := 0 } } :=
  (portStep_inDeq s).trans ((inDeqTakesTheFront _).2 h)

/-- The answer's low eight bits are the byte (R102). -/
theorem setWidth_taken_result (s : State) : s.taken.resp.result.setWidth 8 = s.inq.read s.inq.rd := by
  apply BitVec.eq_of_toNat_eq
  have := (s.inq.read s.inq.rd).isLt
  simp only [State.taken, BitVec.toNat_setWidth, BitVec.toNat_ofNat]
  omega

theorem foregroundOp_takeByte_of_ne {s : State} (h : s.inq.rd ≠ s.inq.wr) (q : Bool) :
    foregroundOp q .takeByte s = handleByte (s.inq.read s.inq.rd) s.taken := by
  rw [foregroundOp, portStep_inDeq_of_ne h, ← setWidth_taken_result]
  rfl

theorem foregroundOp_waitTake_of_ne {s : State} (h : s.inq.rd ≠ s.inq.wr) (q : Bool) :
    foregroundOp q .waitTake s = handleByte (s.inq.read s.inq.rd) (s.taken.push [.waitTake]) := by
  rw [foregroundOp, portStep_inDeq_of_ne h, ← setWidth_taken_result]
  rfl

theorem foregroundOp_takeByte_of_eq {s : State} (h : s.inq.rd = s.inq.wr) (q : Bool) :
    foregroundOp q .takeByte s = .next { s with req := 0x1600, resp := { status := .empty, result := 0 } } := by
  rw [foregroundOp, portStep_inDeq_of_eq h]
  rfl

theorem foregroundOp_waitTake_of_eq {s : State} (h : s.inq.rd = s.inq.wr) (q : Bool) :
    foregroundOp q .waitTake s = .next
      ({ s with req := 0x1600, resp := { status := .empty, result := 0 } }.push [.waitDeadline]) := by
  rw [foregroundOp, portStep_inDeq_of_eq h]
  rfl

/-- Settles O60: the class is read off the byte's value, and the byte taken goes to the link byte of its class. -/
theorem classesOfLinkBytes : Obligations.ClassesOfLinkBytes := by
  refine ⟨fun b => ⟨fun h => ?_, fun h hge => ?_, fun h hlt => ?_⟩,
    fun s q rest htodo => ⟨fun h => ?_, fun b h hb => ?_⟩⟩
  · have hclass := linkClass_eq_sentinel.mpr h
    exact ⟨hclass, classify_of_sentinel hclass⟩
  · obtain ⟨-, hspace, hword⟩ := decodeLink_hasWord b
    rw [classify_of_ne h]
    exact ⟨linkClass_eq_command.mpr ⟨h, hge⟩, hspace, hword⟩
  · obtain ⟨-, hspace, hword⟩ := decodeLink_hasWord b
    rw [classify_of_ne h]
    exact ⟨linkClass_eq_data.mpr ⟨h, Nat.not_le.mpr hlt⟩, hspace, hword⟩
  · rw [foregroundStep_of_todo htodo]
    exact foregroundOp_takeByte_of_eq (s := s.withTodo rest) h q
  · subst hb
    have hstep : foregroundStep q s = handleByte (s.inq.read s.inq.rd) (s.taken.withTodo rest) := by
      rw [foregroundStep_of_todo htodo, foregroundOp_takeByte_of_ne (s := s.withTodo rest) h]
      rfl
    refine ⟨fun hclass => ?_, fun hne hfe => ?_⟩
    · have hexec := hstep.trans (handleByte_of_class hclass _)
      exact ⟨hexec ▸ exec_classify_completes _ _, hexec⟩
    · rw [hstep, hfe]
      exact handleByte_resend (fun heq => hne (hfe.trans heq)) _

/-! ### The parameter wait -/

theorem foregroundOp_waitDeadline_of_lt {s : State} (h : (s.ticks - s.fg.t0).toNat < Config.paramWaitTicks) (q : Bool) :
    foregroundOp q .waitDeadline s = .next
      ({ s with req := 0x3000, resp := { status := .ok, result := s.ticks } }.push [.waitTake]) :=
  congrArg Host.Outcome.next (if_neg (Nat.not_le.mpr h))

theorem foregroundOp_waitDeadline_of_le {s : State} (h : Config.paramWaitTicks ≤ (s.ticks - s.fg.t0).toNat) (q : Bool) :
    foregroundOp q .waitDeadline s = .next
      { s with req := 0x3000, resp := { status := .ok, result := s.ticks } }.endWait :=
  congrArg Host.Outcome.next (if_pos h)

/-- Settles O56: the three steps of the wait, and the byte taken in it by its class. -/
theorem parameterWaitIsBounded : Obligations.ParameterWaitIsBounded := by
  intro s q rest others
  refine ⟨fun htodo => foregroundStep_cons htodo q, fun htodo h => ?_, fun b htodo h hb => ?_,
    fun htodo => ⟨fun h => ?_, fun h => ?_⟩⟩
  · rw [foregroundStep_of_todo htodo, foregroundOp_waitTake_of_eq (s := s.withTodo rest) h]
    rfl
  · subst hb
    have hstep : foregroundStep q s = handleByte (s.inq.read s.inq.rd) (s.taken.withTodo (.waitTake :: rest)) := by
      rw [foregroundStep_of_todo htodo, foregroundOp_waitTake_of_ne (s := s.withTodo rest) h]
      rfl
    refine ⟨fun hclass => ?_, fun hclass => ?_, fun hclass hwait => ?_, fun hclass hfe => ?_, fun hclass hfe => ?_⟩
    · rw [hstep, handleByte_of_class hclass, ← htodo]
      rfl
    · exact hstep.trans (handleByte_sentinel hclass _)
    · rw [hstep, handleByte_data hclass, State.takeData_of_waiting (s := s.taken.withTodo (.waitTake :: rest)) hwait,
        State.endWait_eq]
      rfl
    · obtain ⟨bytes, after, hreply, hafter⟩ := handleByte_command hclass hfe (s.taken.withTodo (.waitTake :: rest))
      refine ⟨bytes.map .respond ++ after, ?_, ?_⟩
      · rw [hstep, hreply, State.reply_eq]
        rfl
      · rcases hafter with ⟨rfl, rfl⟩ | rfl
        · exact .inl rfl
        · exact .inr ⟨bytes, List.append_nil _⟩
    · rw [hstep, hfe]
      exact handleByte_resend (fun heq => (linkClass_eq_command.mp hclass).1 (hfe.trans heq)) _
  · rw [foregroundStep_of_todo htodo, foregroundOp_waitDeadline_of_lt (s := s.withTodo rest) h]
    rfl
  · rw [foregroundStep_of_todo htodo, foregroundOp_waitDeadline_of_le (s := s.withTodo rest) h, State.endWait_eq]
    rfl

/-! ### The debounce -/

/-- `TICKS.RD` at a qualifying event (R302). -/
theorem foregroundOp_pollSource (s : State) :
    foregroundOp true .pollSource s = .next
      (debounce s.ticks { s with req := 0x3000, resp := { status := .ok, result := s.ticks } }) := rfl

theorem debounce_fresh {t : Word} {s : State} (h : s.fg.count = 0 ∨ (t - s.fg.w0).toNat > Config.windowTicks) :
    debounce t s = { s with fg := { s.fg with count := 1, w0 := t } } := by
  simp [-BitVec.toNat_sub, debounce, h]

theorem debounce_second {t : Word} {s : State} (hcount : s.fg.count = 1)
    (hwindow : (t - s.fg.w0).toNat ≤ Config.windowTicks) :
    debounce t s = { s with fg := { s.fg with count := 2 } } := by
  simp [-BitVec.toNat_sub, debounce, hcount, Nat.not_lt.mpr hwindow]

theorem debounce_third {t : Word} {s : State} (hcount : s.fg.count = 2)
    (hwindow : (t - s.fg.w0).toNat ≤ Config.windowTicks) :
    debounce t s = { s with fg := { s.fg with count := 0 } }.push [.checkInbound] := by
  simp [-BitVec.toNat_sub, debounce, hcount, Nat.not_lt.mpr hwindow]

/-- Settles O57, by the count of the events in the window. -/
theorem debounceCountsThree : Obligations.DebounceCountsThree := by
  intro s rest htodo after
  refine ⟨fun hfresh => ?_, fun hcount hwindow => ?_, fun hcount hwindow => ?_, foregroundStep_cons htodo false⟩
  · rw [foregroundStep_of_todo htodo, foregroundOp_pollSource]
    exact congrArg Host.Outcome.next (debounce_fresh hfresh)
  · rw [foregroundStep_of_todo htodo, foregroundOp_pollSource]
    exact congrArg Host.Outcome.next (debounce_second hcount hwindow)
  · rw [foregroundStep_of_todo htodo, foregroundOp_pollSource]
    exact congrArg Host.Outcome.next (debounce_third hcount hwindow)

/-! ### Triggers and recovery -/

theorem foregroundOp_checkInbound (q : Bool) (s : State) :
    foregroundOp q .checkInbound s = .next
      (if s.inq.rd = s.inq.wr then
        { s with req := 0x1300, resp := { status := .ok, result := 1 } }.push [.checkOutbound]
      else { s with req := 0x1300, resp := { status := .ok, result := 0 } }) := by
  obtain ⟨-, -, hempty, -⟩ := queueTestsAnswer { s with req := 0x1300 }
  rw [foregroundOp, portStep_inEmpty, hempty]
  by_cases h : s.inq.rd = s.inq.wr <;> simp [andThen, h]

theorem foregroundOp_checkOutbound (q : Bool) (s : State) :
    foregroundOp q .checkOutbound s = .next
      (if s.outq.rd = s.outq.wr then
        { s with req := 0x0300, resp := { status := .ok, result := 1 } }.push [.respond 0x29, .respond 0xF0]
      else { s with req := 0x0300, resp := { status := .ok, result := 0 } }) := by
  obtain ⟨hempty, -⟩ := queueTestsAnswer { s with req := 0x0300 }
  rw [foregroundOp, portStep_outEmpty, hempty]
  by_cases h : s.outq.rd = s.outq.wr <;> simp [andThen, h]

theorem recoverySteps_of_nil {keys : List Byte} (h : keys = []) :
    recoverySteps (!keys.isEmpty) = [.request 0x0200, .request 0x2100] := by
  rw [h]
  rfl

theorem recoverySteps_of_ne_nil {keys : List Byte} (h : keys ≠ []) :
    recoverySteps (!keys.isEmpty) = [.request 0x0200, .respond 0xF0, .request 0x2100] := by
  rw [List.isEmpty_eq_false_iff.mpr h]
  rfl

/-- With no link error the record of key bytes starts anew (R303). -/
theorem foregroundOp_checkLinkError_of_clear {s : State} (h : s.lerr = false) (q : Bool) :
    foregroundOp q .checkLinkError s = .next { s with
      req := 0x2000, resp := { status := .ok, result := 0 }, fg := { s.fg with keys := [] } } := by
  rw [foregroundOp, portStep_lerrRd, (linkErrorFlagIsReadAndCleared _).1]
  simp [andThen, afterLinkError, h]

theorem foregroundOp_checkLinkError_of_set {s : State} (h : s.lerr = true) (q : Bool) :
    foregroundOp q .checkLinkError s = .next
      ({ s with req := 0x2000, resp := { status := .ok, result := 1 } }.push (recoverySteps (!s.fg.keys.isEmpty))) := by
  rw [foregroundOp, portStep_lerrRd, (linkErrorFlagIsReadAndCleared _).1]
  simp [andThen, afterLinkError, h]

/-- Settles O58: a pass begins with the link error's step too, so its three cases serve both. -/
theorem triggersAndRecovery : Obligations.TriggersAndRecovery := by
  intro s q rest after seen
  have linkError (more : List FgOp) (hstep : foregroundStep q s =
      foregroundOp q .checkLinkError (s.withTodo more)) :
      (s.lerr = false → foregroundStep q s = .next (seen more)) ∧
      (s.lerr = true → s.fg.keys = [] → foregroundStep q s = .next
        (after 0x2000 1 (.request 0x0200 :: .request 0x2100 :: more))) ∧
      (s.lerr = true → s.fg.keys ≠ [] → foregroundStep q s = .next
        (after 0x2000 1 (.request 0x0200 :: .respond 0xF0 :: .request 0x2100 :: more))) := by
    refine ⟨fun h => ?_, fun h hkeys => ?_, fun h hkeys => ?_⟩
    · rw [hstep, foregroundOp_checkLinkError_of_clear (s := s.withTodo more) h]
      rfl
    · rw [hstep, foregroundOp_checkLinkError_of_set (s := s.withTodo more) h, State.withTodo_keys,
        recoverySteps_of_nil hkeys]
      rfl
    · rw [hstep, foregroundOp_checkLinkError_of_set (s := s.withTodo more) h, State.withTodo_keys,
        recoverySteps_of_ne_nil hkeys]
      rfl
  refine ⟨fun htodo => ?_, fun htodo => ?_, fun htodo => linkError rest (foregroundStep_of_todo htodo q),
    fun htodo => linkError [.takeByte, .pollSource] ?_⟩
  · rw [foregroundStep_of_todo htodo, foregroundOp_checkInbound]
    rfl
  · rw [foregroundStep_of_todo htodo, foregroundOp_checkOutbound]
    rfl
  · rw [foregroundStep_nil htodo, State.push, htodo]
    rfl

end Sys2Proof.Machine
end

section
/-! PROOFS. The link error: what sets `LERR` (R316, R37). -/
namespace Sys2Proof.Machine

/-! ### `LERR` under the handlers -/

@[simp] theorem State.idleLogic_lerr (s : State) : s.idleLogic.lerr = s.lerr := by
  rcases s.idleLogic_cases with ⟨-, h⟩ | ⟨-, -, h⟩ | ⟨-, -, h⟩ <;> rw [h] <;> rfl

theorem inhibitedStep_lerr (s : State) : (inhibitedStep s).lerr = s.lerr := by
  unfold inhibitedStep
  split
  · rfl
  · split <;> rfl

theorem receiveAckStep_lerr (s : State) : (receiveAckStep s).lerr = s.lerr := by
  cases hd : s.dat
  · rw [receiveAckStep_of_not_dat hd]
  · rw [receiveAckStep_of_dat hd]

/-- A handler leaves `LERR` alone, or is one of the two sending handlers and takes over on a low clock (R189, R190). -/
theorem handlerStep_lerr (hd : Handler) (s : State) :
    (handlerStep hd s).lerr = s.lerr ∨
      (hd = .sendBit ∨ hd = .sendParity) ∧ s.clk = false ∧ handlerStep hd s = s.takeover := by
  cases hd
  case sendBit =>
    rcases sendBitStep_cases s with ⟨hc, h⟩ | ⟨-, n, -, h⟩
    · exact .inr ⟨.inl rfl, hc, h⟩
    · exact .inl (by rw [handlerStep, h])
  case sendParity =>
    cases hc : s.clk
    · exact .inr ⟨.inr rfl, rfl, sendParityStep_of_not_clk hc⟩
    · exact .inl (by rw [handlerStep, sendParityStep_of_clk hc])
  case receiveBit =>
    obtain ⟨n, -, h⟩ := receiveBitStep_cases s
    exact .inl (by rw [handlerStep, h])
  case idle => exact .inl s.idleLogic_lerr
  case inhibited => exact .inl (inhibitedStep_lerr s)
  case receiveAck => exact .inl (receiveAckStep_lerr s)
  case receiveEnd => exact .inl s.relDat.idleLogic_lerr
  case sendStopBit | receiveParity => exact .inl rfl

/-- A tick that sets `LERR` is a HIGH tick whose handler took over (R316). -/
theorem tick_setsLerr_cases {s t : State} (h : tick s = .next t) (hclear : s.lerr = false) (hset : t.lerr = true) :
    s.ph = 3 ∧ (s.st = Handler.sendBit.code ∨ s.st = Handler.sendParity.code) ∧ s.clk = false ∧
      t = s.takeover.advance := by
  have hne : t.lerr ≠ s.lerr := by simp [hclear, hset]
  rcases tick_cases h with ⟨-, rfl⟩ | ⟨-, rfl⟩ | ⟨-, rfl⟩ | ⟨hp, hd, hst, rfl⟩
  case inr.inl => exact absurd rfl hne
  case inr.inr.inr =>
    obtain ⟨hsends, hclk, htakeover⟩ := (handlerStep_lerr hd s).resolve_left hne
    rw [hst, htakeover]
    exact ⟨hp, hsends.imp (congrArg Handler.code) (congrArg Handler.code), hclk, rfl⟩
  all_goals exact absurd (by cases s.gen <;> rfl) hne

/-- Settles O32: the tick is a takeover, under the host drive of the step. -/
theorem onlyATakeoverSetsLinkError : Obligations.OnlyATakeoverSetsLinkError := by
  intro s t c d hclear h hset
  obtain ⟨hp, hst, hclk, rfl⟩ :=
    tick_setsLerr_cases ((tick_eq_exec { s with hclk := c, hdat := d }).trans h) hclear hset
  exact ⟨hp, hst, State.clk_eq_false_iff.mp hclk, rfl, rfl⟩

end Sys2Proof.Machine
end

section
/-! PROOFS. The reset (R340), and two facts about every tick: the lines are read at HIGH alone (R353), and a link error
blocks every send (R351). -/
namespace Sys2Proof.Machine

/-! ### The reset -/

/-- Settles O7: the reset step and the state a run begins with give each field of the block the same value. -/
theorem resetSetsEveryField : Obligations.ResetSetsEveryField := by
  intro s rest h
  refine ⟨_, step_of_script h, fun t ht => ?_⟩
  rcases ht with rfl | rfl <;>
    exact ⟨rfl, rfl, rfl, rfl, rfl, rfl, rfl, rfl, rfl, rfl, rfl, rfl, fun _ => rfl, rfl, rfl, fun _ => rfl⟩

/-! ### The lines -/

theorem decodePhase_of_ne_high {p : BitVec 2} (h : p ≠ 3) :
    decodePhase p = .fall ∨ decodePhase p = .low ∨ decodePhase p = .rise := by
  revert p
  decide

/-- The three phases that run no handler read neither line (R181 to R183). -/
theorem exec_edge_withHost {i : Instr} (hi : i = .fall ∨ i = .low ∨ i = .rise) (s : State) :
    ∃ t : State, ∀ c d, exec i (s.withHost c d) = .next (t.withHost c d) := by
  rcases hi with rfl | rfl | rfl
  · exact ⟨{ s with clkOe := s.clkOe || s.gen }.advance, fun c d => (phasesDriveTheClock (s.withHost c d)).1⟩
  · exact ⟨s.advance, fun c d => (phasesDriveTheClock (s.withHost c d)).2.1⟩
  · exact ⟨{ s with clkOe := s.clkOe && !s.gen }.advance, fun c d => (phasesDriveTheClock (s.withHost c d)).2.2⟩

/-- Settles O29: a phase other than HIGH runs no handler. -/
theorem linesMatterOnlyAtHighTicks : Obligations.LinesMatterOnlyAtHighTicks := by
  intro s c d c' d' hp
  obtain ⟨t, ht⟩ := exec_edge_withHost (decodePhase_of_ne_high hp) s
  exact ⟨t, ht c d, ht c' d'⟩

/-! ### The link error -/

/-- Under a link error no tick goes to SendBit from another state: in the next-state table the Idle decision alone leads
there, and it asks for `LERR = 0` (R186, R196). -/
theorem tick_startsNoSend_of_lerr {s t : State} {c d : Bool} (hlerr : s.lerr = true) (hst : s.st ≠ 2)
    (h : exec (decodePhase s.ph) { s with hclk := c, hdat := d } = .next t) : t.st ≠ 2 := by
  intro hsend
  obtain ⟨hkeep, htable⟩ := engineFollowsTheNextStateTable s t c d _ rfl h
  by_cases hp : s.ph = 3
  case neg => exact hst ((hkeep hp).symm.trans hsend)
  obtain ⟨idle, inhibited, -, sendParity, sendStopBit, receiveBit, receiveParity, receiveAck, receiveEnd⟩ := htable hp
  rw [hsend] at idle inhibited sendParity sendStopBit receiveBit receiveParity receiveAck receiveEnd
  simp only [hlerr, Bool.true_eq_false, and_false, if_false] at idle receiveEnd
  obtain ⟨hd, _, rfl, hcode, -⟩ := exec_high_cases hp h
  cases hd
  case idle => exact absurd (idle hcode) (by split_ifs <;> decide)
  case inhibited => exact absurd (inhibited hcode) (by split_ifs <;> decide)
  case sendBit => exact hst hcode
  case sendParity => exact absurd (sendParity hcode).1 (by split_ifs <;> decide)
  case sendStopBit => exact absurd (sendStopBit hcode) (by decide)
  case receiveBit => exact absurd (receiveBit hcode) (by split_ifs <;> decide)
  case receiveParity => exact absurd (receiveParity hcode) (by decide)
  case receiveAck => exact absurd (receiveAck hcode) (by split_ifs <;> decide)
  case receiveEnd => exact absurd (receiveEnd hcode) (by split_ifs <;> decide)

/-- Settles O31: no send starts under a link error, and no tick clears one. -/
theorem linkErrorBlocksEverySend : Obligations.LinkErrorBlocksEverySend := fun s _ c d hlerr hst h =>
  ⟨tick_startsNoSend_of_lerr hlerr hst h,
    (tick_ticksTo ((tick_eq_exec { s with hclk := c, hdat := d }).trans h)).lerr hlerr⟩

end Sys2Proof.Machine
end
